-- ==== Sys2Proof/Word.lean ====
section
/-!
DEFINITION. The widths the spec names and the two levels of the signal line.
-/

namespace Sys2Proof

/-- Eight bits: an opcode, a check byte, one byte of a frame. -/
abbrev Byte := BitVec 8

/-- Thirty-two bits: the shift register, a response frame, the counters, the timing parameters. -/
abbrev Word := BitVec 32

/-- A level of the one signal line (00 R12). -/
inductive Level where
  | low
  | high
  deriving DecidableEq, Repr, Inhabited

end Sys2Proof
end

