-- ==== Sys2Proof/Machine/Constants.lean ====
section
/-!
DEFINITION. The constants of 00 R7, each named once (93 U1: the literals are unaudited, so a corrected one changes
one line here).
-/

namespace Sys2Proof

/-- "Seed value is a fixed constant (0xAC)" (40 R116). -/
def crcSeed : Byte := 0xAC

/-- "polynomial feedback 0x07 applied per bit" (40 R111). -/
def crcPoly : Byte := 0x07

/-- The touch-sample request (30 R89). -/
def opTouch : Byte := 0x40

/-- The identification request (30 R90). -/
def opIdent : Byte := 0x60

/-- Bit 7, which marks a set-backlight-level request (30 R91). -/
def opSetbl : Byte := 0x80

/-- The backlight-readiness probe, 127 (30 R92). -/
def opBlprobe : Byte := 0x7F

/-- Countdown loaded by an accepted `start_session` (41 R131). -/
def startTicks : Word := 1

/-- Countdown loaded on entry to Request: 8 opcode bits and 8 check bits (41 R135). -/
def requestBits : Word := 16

/-- Countdown loaded on entry to Turnaround (41 R136). -/
def turnaroundTicks : Word := 2

/-- Countdown loaded on entry to Response (41 R137). -/
def responseBits : Word := 32

/-- Countdown loaded on entry to Stop (41 R138). -/
def stopTicks : Word := 2

/-- Ticks of one session: 1 + 16 + 2 + 32 + 2 (41 R143). -/
def ticksPerSession : Nat := 53

/-- The target bit rate, bits per second (00 R7, 44 R221). -/
def bitRate : Word := 9600

/-- "suppress counting the first 100 receptions (warm-up)" (42 R175). -/
def warmup : Word := 100

/-- The unset sentinel of the identification code (10 R32). -/
def identUnset : Byte := 0

/-- An identification response's code that means "not yet available" (42 R179). -/
def identNotAvailable : Byte := 0xFF

/-- The coordinate value that means not pressed (42 R178). -/
def coordNone : BitVec 12 := 0xFFF

/-- Attempts of the blocking variant in one call (45 R239, C4, D25). -/
def blockingMaxAttempts : Nat := 3

end Sys2Proof
end

