-- ==== Sys2Proof/Machine/Crc.lean ====
section
/-!
DEFINITION. The CRC8 Engine in its two realizations (spec/40_crc8.md). Pure functions, no state (40 R117).
-/

namespace Sys2Proof

/-- The bits of a byte, most significant first (40 R111, 20 R61). -/
def bitsMsbFirst (b : Byte) : List Bool :=
  [b.getLsbD 7, b.getLsbD 6, b.getLsbD 5, b.getLsbD 4, b.getLsbD 3, b.getLsbD 2, b.getLsbD 1, b.getLsbD 0]

/-- `crc_bit`: one step of the bit-serial form. The data bit and the bit shifted out decide the feedback
(40 R111, D1; assumption log 7). -/
def crcBit (crc : Byte) (d : Bool) : Byte :=
  if Bool.xor (crc.getLsbD 7) d then (crc <<< 1) ^^^ crcPoly else crc <<< 1

/-- Eight bit steps: one byte of the stream (40 R112). -/
def crcByteSerial (crc b : Byte) : Byte :=
  (bitsMsbFirst b).foldl crcBit crc

/-- `crc8_serial`: the bit-serial form, used by the blocking variant (40 R112, R124). -/
def crc8Serial (init : Byte) (stream : List Byte) : Byte :=
  stream.foldl crcByteSerial init

/-- `CrcRom[i]`: eight zero-data bit steps from `i` (40 R113). -/
def crcRom (i : Byte) : Byte :=
  crc8Serial i [0]

/-- The 256 entries of the table in index order (10 R38, 40 R121). -/
def crcRomTable : List Byte :=
  (List.range 256).map fun i => crcRom (BitVec.ofNat 8 i)

/-- `crc8_table`: the table form, used by the tick-driven engine (40 R114, R124). -/
def crc8Table (init : Byte) (stream : List Byte) : Byte :=
  stream.foldl (fun crc b => crcRom (crc ^^^ b)) init

/-- `crc8` as the tick-driven engine computes it (40 R110, R124). The laws of 40 R118 are consequences of this
definition: Sys2Proof/Laws/Crc.lean and the statements about the CRC8 Engine. -/
def crc8 (init : Byte) (stream : List Byte) : Byte :=
  crc8Table init stream

/-- What a seed contributes to the value over any stream of length `n`: its value over `n` bytes of zeros
(40 R118(f)). -/
def crcSeedContribution (init : Byte) (n : Nat) : Byte :=
  crc8 init (List.replicate n 0)

/-- The check byte of a request (40 R119). -/
def checkByte (opcode : Byte) : Byte :=
  crc8 crcSeed [opcode]

end Sys2Proof
end

