-- ==== Sys2Proof/Config.lean ====
section
/-!
DEFINITION. The free values: what the spec leaves without a value and asks a model to draw.
Each is an opaque constant without a body, applied to the counter `draws` of the state, so that no proof
can rest on what it is.
-/

namespace Sys2Proof.Config

/-- `tick_countdown` after a reset: "unspecified" (10 R52, D15). Free value, assumption log 2. -/
opaque freeCountdown : Nat → Word

/-- `shift_register` after a reset: "unspecified" (10 R52, D15). Free value, assumption log 2. -/
opaque freeShift : Nat → Word

/-- `request_opcode` after a reset: "unspecified" (10 R52, D15). Free value, assumption log 2. -/
opaque freeOpcode : Nat → Byte

/-- `reload_value` between a reset and the next `init`: "unspecified until `init`" (10 R52). Free value,
assumption log 2. -/
opaque freeReload : Nat → Word

/-- The level `Line.read()` returns where the tick carries none (10 R46, D26, U5). Free value, assumption log 6. -/
opaque freeLevel : Nat → Level

end Sys2Proof.Config
end

