-- ==== Sys2Proof/Machine/State.lean ====
section
/-!
DEFINITION. The state of the machine, what an agent can call, what the machine puts out, the reasons a step stops,
and the state after reset.
-/

namespace Sys2Proof.Machine

/-- The two codes of the 3-bit `state` register that name no state (10 R21, D3). -/
inductive BadCode where
  | code6
  | code7
  deriving DecidableEq, Repr

/-- The `state` register (10 R21): six names and the unrecognized values (30 R100). -/
inductive SessionState where
  | idle
  | start
  | request
  | turnaround
  | response
  | stop
  | unrecognized (code : BadCode)
  deriving DecidableEq, Repr

/-- The mode of the signal line (10 R40(1)). -/
inductive LineMode where
  | output
  | input
  deriving DecidableEq, Repr

/-- What `start_session` returns (30 R104). -/
inductive StartResult where
  | accepted
  | busy
  deriving DecidableEq, Repr

/-- The kind of a protocol fault (10 R49). -/
inductive ProtocolFaultKind where
  | unrecognizedState (code : BadCode)
  | tickWhileIdle
  deriving DecidableEq, Repr

/-- A message of `Diag.log` as a tagged value (10 R49, D33). -/
inductive Diag where
  | dropped (opcode : Byte)
  | frameError (opcode : Byte) (raw : Word)
  | protocolFault (kind : ProtocolFaultKind)
  | configError
  | notConfigured (opcode : Byte)
  deriving DecidableEq, Repr

/-- An event the CORE emits (10 R48). -/
inductive Event where
  | onTouch (x y : BitVec 12) (pressed : Bool)
  | onIdentification (code : Byte) (firmwareVersion : BitVec 16)
  | onBacklightReady
  | onFrameError (opcode : Byte) (raw : Word)
  deriving DecidableEq, Repr

/-- One thing an observer sees, in order (00 R16): a call of a collaborator, an event, a result of `start_session`. -/
inductive Effect where
  /-- `Line.drive(level)` (10 R43). -/
  | lineDrive (level : Level)
  /-- `Line.become_input()` (10 R44). -/
  | lineBecomeInput
  /-- `Line.become_output()` (10 R45). -/
  | lineBecomeOutput
  /-- `Line.read()` and the level it returned (10 R46). -/
  | lineRead (level : Level)
  /-- `Tick.arm(reload_value)` (10 R47). -/
  | tickArm (reload : Word)
  /-- `Tick.disarm()` (10 R47). -/
  | tickDisarm
  /-- The scheduling timer's `cancel()`, made by the shutdown path (10 R51, 60 R275). -/
  | timerCancel
  /-- `Diag.log(message)` (10 R49). -/
  | log (message : Diag)
  /-- An emitted event (10 R48). -/
  | emit (event : Event)
  /-- The result `start_session` returned (10 R50). -/
  | result (value : StartResult)
  deriving DecidableEq, Repr

/-- One call an agent makes: one atomic step of the machine (00 R13, R14). -/
inductive Input where
  /-- The host: `init(reference_clock_rate, prescale_divisor, target_bit_rate)` (44 R226). -/
  | init (ref pre rate : Word)
  /-- The scheduler: `start_session(opcode)` (41 R131). -/
  | start (opcode : Byte)
  /-- The tick source: `on_tick()`, with the level the wire has at this moment, where one is given (41 R134, 10 R46). -/
  | tick (wire : Option Level)
  /-- The host: `shutdown()` (60 R275). -/
  | shutdown
  /-- The reset event (70 R290). -/
  | reset
  /-- The host hands over the line, in output mode and high, and the tick source, disarmed (70 R293(2), R294, R305). -/
  | handOver
  deriving DecidableEq, Repr

/-- The state of the machine. -/
structure State where
  /-- `state` (10 R21). -/
  state : SessionState
  /-- `tick_countdown` (10 R22). -/
  tickCountdown : Word
  /-- `shift_register` (10 R23). -/
  shiftRegister : Word
  /-- `request_opcode` (10 R24). -/
  requestOpcode : Byte
  /-- `reload_value` (10 R31). -/
  reloadValue : Word
  /-- `configured` (10 R37). -/
  configured : Bool
  /-- `identification_code` (10 R32). -/
  identificationCode : Byte
  /-- `firmware_version` (10 R33). -/
  firmwareVersion : BitVec 16
  /-- `backlight_ready` (10 R29). -/
  backlightReady : Bool
  /-- `total_received` (10 R35). -/
  totalReceived : Word
  /-- `total_error` (10 R35). -/
  totalError : Word
  /-- `total_busy` (10 R36). -/
  totalBusy : Word
  /-- `protocol_fault` (10 R30). -/
  protocolFault : Bool
  /-- The mode of the signal line (10 R40(1)). -/
  lineMode : LineMode
  /-- The level the line drives in output mode (10 R40(2), R43). -/
  lineLatch : Level
  /-- Whether the tick source is armed (10 R40(3)). -/
  tickArmed : Bool
  /-- The model's own: every effect so far, oldest first (00 R16; assumption log 4). -/
  trace : List Effect
  /-- The model's own: the calls the agents have yet to make, oldest first (00 R14; assumption log 5). -/
  inbox : List Input
  /-- The model's own: the index of the next free value (assumption log 6). -/
  draws : Nat
  deriving DecidableEq, Repr

/-- Why the machine stops with a fault: never. "no exceptions propagate out of the tick callback under any of these
conditions" (60 R255): every error condition of the spec is a next state. No constructor, which is safe. -/
inductive Fault where
  deriving DecidableEq, Repr

/-- Why a step is refused. -/
inductive Refusal where
  /-- An instruction without a meaning; raised by an arm of `exec` only. No arm raises it. Safe. -/
  | notModelled (mnemonic : String)
  /-- `init` while a session is active, raised by `init`: the spec defines no effect and asks a model to refuse
  (44 R222, R226; 93 U9). Safe: the run stops. -/
  | initDuringSession
  deriving DecidableEq, Repr

/-- The machine right after reset (10 R52). `tickCountdown`, `shiftRegister`, `requestOpcode` and `reloadValue` have no
stated value: 0 is the model's DESIGN CHOICE (assumption log 1, unsafe). The line and the tick source stand as the
spec requires them before the first session (D16, D17; assumption log 3). -/
def State.reset : State where
  state := .idle
  tickCountdown := 0
  shiftRegister := 0
  requestOpcode := 0
  reloadValue := 0
  configured := false
  identificationCode := 0
  firmwareVersion := 0
  backlightReady := false
  totalReceived := 0
  totalError := 0
  totalBusy := 0
  protocolFault := false
  lineMode := .output
  lineLatch := .high
  tickArmed := false
  trace := []
  inbox := []
  draws := 0

end Sys2Proof.Machine
end

