-- ==== Sys2Proof/Machine/Operands.lean ====
section
/-!
DEFINITION. The operand forms: how an opcode, a frame, a response's fields and a level are put together and taken
apart (spec/30_encoding.md, spec/20_memory.md section 1).
-/

namespace Sys2Proof.Machine

/-- The bit a level stands for: high is 1 and low is 0 (30 R87, D2; assumption log 8). -/
def bitOfLevel : Level → Bool
  | .low => false
  | .high => true

/-- The level that sends a bit (30 R87, D2; assumption log 8). -/
def levelOfBit (b : Bool) : Level :=
  if b then .high else .low

/-- The opcode of `SETBL level`: `0x80 | level` (30 R91). -/
def setblOpcode (level : BitVec 7) : Byte :=
  opSetbl ||| level.setWidth 8

/-- The opcode of `ACK n`: `n` itself with bit 7 clear (30 R93). -/
def ackOpcode (n : BitVec 7) : Byte :=
  n.setWidth 8

/-- The request frame, 16 bits: the opcode and its check byte (30 R81). -/
def requestFrame (opcode : Byte) : BitVec 16 :=
  opcode ++ checkByte opcode

/-- What an accepted start loads: the request frame in the upper half, zeros below (30 R85). -/
def loadedShift (opcode : Byte) : Word :=
  requestFrame opcode ++ (0 : BitVec 16)

/-- One Request tick's shift: left by one, bit 31 lost, bit 0 becomes 0 (41 R136). -/
def shiftOut (w : Word) : Word :=
  w <<< 1

/-- One Response tick's shift: left by one with the sampled bit entering at bit 0 (41 R138, 30 R86). -/
def shiftIn (w : Word) (b : Bool) : Word :=
  (w <<< 1) ||| (BitVec.ofBool b).setWidth 32

/-- `byte3 = raw[31:24]`, the first 8 response bits (20 R62, C8). -/
def byte3 (raw : Word) : Byte := raw.extractLsb' 24 8

/-- `byte2 = raw[23:16]` (20 R62, C8). -/
def byte2 (raw : Word) : Byte := raw.extractLsb' 16 8

/-- `byte1 = raw[15:8]` (20 R62, C8). -/
def byte1 (raw : Word) : Byte := raw.extractLsb' 8 8

/-- `byte0 = raw[7:0]`, the check byte, the last 8 bits received (20 R62, C8). -/
def byte0 (raw : Word) : Byte := raw.extractLsb' 0 8

/-- `x = ((byte3 >> 4) << 8) | byte2` (30 R96). -/
def touchX (raw : Word) : BitVec 12 :=
  ((byte3 raw >>> 4).setWidth 12 <<< 8) ||| (byte2 raw).setWidth 12

/-- `y = ((byte3 & 0xF) << 8) | byte1` (30 R96). -/
def touchY (raw : Word) : BitVec 12 :=
  ((byte3 raw &&& 0xF).setWidth 12 <<< 8) ||| (byte1 raw).setWidth 12

/-- `firmware_version = byte2 * 100 + byte1`, in 16 bits (30 R99, D13). -/
def firmwareOf (raw : Word) : BitVec 16 :=
  (byte2 raw).setWidth 16 * 100 + (byte1 raw).setWidth 16

/-- The 3-bit code of a value of `state` (30 R100, D3). -/
def stateCode : SessionState → BitVec 3
  | .idle => 0
  | .start => 1
  | .request => 2
  | .turnaround => 3
  | .response => 4
  | .stop => 5
  | .unrecognized .code6 => 6
  | .unrecognized .code7 => 7

/-- The value of `state` a 3-bit code stands for (30 R100, D3). -/
def stateOfCode (c : BitVec 3) : SessionState :=
  if c = 0 then .idle
  else if c = 1 then .start
  else if c = 2 then .request
  else if c = 3 then .turnaround
  else if c = 4 then .response
  else if c = 5 then .stop
  else if c = 6 then .unrecognized .code6
  else .unrecognized .code7

end Sys2Proof.Machine
end

