-- ==== Sys2Proof/Machine/Flags.lean ====
section
/-!
DEFINITION. The flag computations: every yes-or-no the spec derives from registers or operands.
-/

namespace Sys2Proof.Machine

/-- `busy` is `state != Idle`; there is no separate bit (10 R28, C6). -/
def busy (s : State) : Bool :=
  s.state != .idle

/-- `pressed = (x != 0xFFF) && (y != 0xFFF)` (42 R178, 10 R53). -/
def pressed (x y : BitVec 12) : Bool :=
  x != coordNone && y != coordNone

/-- The check of a response: `crc8(CRC_SEED, [byte3, byte2, byte1]) == byte0` (42 R173). -/
def frameValid (raw : Word) : Bool :=
  crc8 crcSeed [byte3 raw, byte2 raw, byte1 raw] == byte0 raw

/-- The warm-up is over: `total_received > WARMUP`, unsigned, after the reception was counted (42 R175, R183). -/
def pastWarmup (totalReceived : Word) : Bool :=
  warmup < totalReceived

/-- A response's code is one that may be stored: `byte3 != 0xFF` (42 R179). -/
def codeAvailable (raw : Word) : Bool :=
  byte3 raw != identNotAvailable

/-- The countdown has reached 0 (41 R134: the value after the decrement). -/
def countdownDone (s : State) : Bool :=
  s.tickCountdown == 0

/-- The causes of a configuration error (44 R224, R226, D20). A clock rate that is unavailable is handed over as 0
(assumption log 12). -/
def configurationFails (ref pre rate : Word) : Bool :=
  ref == 0 || rate == 0 || pre + 1 == 0 || ref / (pre + 1) / rate == 0

/-- The level the master puts on the wire: the latch in output mode, nothing in input mode (10 R40, R43, D27). -/
def drivenLevel (s : State) : Option Level :=
  match s.lineMode with
  | .output => some s.lineLatch
  | .input => none

end Sys2Proof.Machine
end

