-- ==== Sys2Proof/Machine/Ops.lean ====
section
/-!
DEFINITION. The named operations over the registers and the collaborators, and raising an error condition, which is
ONE shared operation (spec/60_exceptions.md).
-/

namespace Sys2Proof.Machine

/-- Append one effect to the trace: effects are observed in the order of the rule (00 R13, R16). -/
def observe (e : Effect) (s : State) : State :=
  { s with trace := s.trace ++ [e] }

/-- `Line.drive(level)`: sets the output latch; it reaches the wire in output mode only (10 R43, D27). -/
def lineDrive (level : Level) (s : State) : State :=
  { s with lineLatch := level, trace := s.trace ++ [.lineDrive level] }

/-- `Line.become_input()` (10 R44). -/
def lineBecomeInput (s : State) : State :=
  { s with lineMode := .input, trace := s.trace ++ [.lineBecomeInput] }

/-- `Line.become_output()` (10 R45). -/
def lineBecomeOutput (s : State) : State :=
  { s with lineMode := .output, trace := s.trace ++ [.lineBecomeOutput] }

/-- The level a `Line.read()` returns: the one the wire has, a free input of the step (10 R46, D26); a free value
where the tick carries none (assumption log 6). -/
def sampledLevel (wire : Option Level) (s : State) : Level :=
  wire.getD (Config.freeLevel s.draws)

/-- `Line.read()` as an effect: the call and the level it returned (10 R46). -/
def lineRead (level : Level) (s : State) : State :=
  { s with draws := s.draws + 1, trace := s.trace ++ [.lineRead level] }

/-- `Tick.arm(reload_value)` (10 R47). -/
def tickArm (reload : Word) (s : State) : State :=
  { s with tickArmed := true, trace := s.trace ++ [.tickArm reload] }

/-- `Tick.disarm()`; harmless when disarmed already (10 R47, 20 R67, D17). -/
def tickDisarm (s : State) : State :=
  { s with tickArmed := false, trace := s.trace ++ [.tickDisarm] }

/-- `Diag.log(message)` (10 R49). -/
def diagLog (m : Diag) (s : State) : State :=
  observe (.log m) s

/-- Emit an event (10 R48): an output of the step whether or not anyone consumes it (70 R295). -/
def emit (e : Event) (s : State) : State :=
  observe (.emit e) s

/-- Return a result from `start_session` (10 R50). -/
def answer (r : StartResult) (s : State) : State :=
  observe (.result r) s

/-- The four error conditions (60 R250), with what each records. -/
inductive Condition where
  /-- (a) A start request while a session is active (60 R251). -/
  | busyRejection (opcode : Byte)
  /-- (b) The check of a completed response fails (60 R252). -/
  | frameError (opcode : Byte) (raw : Word)
  /-- (c) A tick finds `state` unrecognized, or Idle (60 R253). -/
  | protocolFault (kind : ProtocolFaultKind)
  /-- (d) The timing parameters cannot be derived (60 R254). -/
  | configurationError
  deriving DecidableEq, Repr

/-- The document's letter of a condition, its code (60 R250, D21). -/
def conditionLetter : Condition → Char
  | .busyRejection _ => 'a'
  | .frameError _ _ => 'b'
  | .protocolFault _ => 'c'
  | .configurationError => 'd'

/-- Count a frame error, unless the reception falls in the warm-up (42 R175). -/
def countError (s : State) : State :=
  { s with totalError := if pastWarmup s.totalReceived then s.totalError + 1 else s.totalError }

/-- RAISING A CONDITION: its fixed effects, in order, inside the step that raises it (60 R250 to R254, R265). Nothing
is saved, no mode changes and control goes nowhere, so there is no return operation either (60 R266). -/
def raiseCondition (c : Condition) (s : State) : State :=
  match c with
  | .busyRejection opcode => diagLog (.dropped opcode) { s with totalBusy := s.totalBusy + 1 }
  | .frameError opcode raw => emit (.onFrameError opcode raw) (diagLog (.frameError opcode raw) (countError s))
  | .protocolFault kind =>
    { diagLog (.protocolFault kind) { tickDisarm s with protocolFault := true } with state := .idle }
  | .configurationError => diagLog .configError { s with configured := false }

end Sys2Proof.Machine
end

