-- ==== Sys2Proof/Machine/Control.lean ====
section
/-!
DEFINITION. What the host does besides `init`: shutdown, reset, the hand-over of the line and the tick source.
-/

namespace Sys2Proof.Machine

/-- `shutdown()` (60 R275, D28): cancels the scheduling timer, disarms the tick source, writes no state of the CORE. -/
def shutdown (s : State) : State :=
  tickDisarm (observe .timerCancel s)

/-- The reset event (10 R52, 70 R290). The unspecified registers take free values (D15, assumption log 2); the line and
the tick source are outside the CORE and stay as they are. -/
def resetCore (s : State) : State :=
  { s with
    state := .idle
    tickCountdown := Config.freeCountdown s.draws
    shiftRegister := Config.freeShift s.draws
    requestOpcode := Config.freeOpcode s.draws
    reloadValue := Config.freeReload s.draws
    configured := false
    identificationCode := identUnset
    firmwareVersion := 0
    backlightReady := false
    totalReceived := 0
    totalError := 0
    totalBusy := 0
    protocolFault := false
    draws := s.draws + 1 }

/-- The host's hand-over (70 R293(2), R294, R305; D16, D17): the line in output mode and driven high, the tick source
disarmed. Not a call of the CORE, so nothing is added to the trace. -/
def handOver (s : State) : State :=
  { s with lineMode := .output, lineLatch := .high, tickArmed := false }

end Sys2Proof.Machine
end

