-- ==== Sys2Proof/Machine/Completion.lean ====
section
/-!
DEFINITION. The Session Completion Dispatcher (spec/42_dispatcher.md).
-/

namespace Sys2Proof.Machine

/-- What a valid response says (42 R177 to R180). -/
inductive Decoded where
  | touch (x y : BitVec 12) (pressed : Bool)
  | identification (code : Byte) (firmwareVersion : BitVec 16)
  | notAvailable
  | acknowledgment
  deriving DecidableEq, Repr

/-- Decoding by the opcode of the request: touch, identification, anything else, tested in this order (42 R177). -/
def decodeResponse (opcode : Byte) (raw : Word) : Decoded :=
  if opcode = opTouch then
    .touch (touchX raw) (touchY raw) (pressed (touchX raw) (touchY raw))
  else if opcode = opIdent then
    if codeAvailable raw then .identification (byte3 raw) (firmwareOf raw) else .notAvailable
  else .acknowledgment

/-- Deliver a decoded response: the Device State and the event (42 R178 to R180; the events by D12 and D31,
assumption log 10). -/
def deliverDecoded (d : Decoded) (s : State) : State :=
  match d with
  | .touch x y p => emit (.onTouch x y p) s
  | .identification code fw =>
    emit (.onIdentification code fw) { s with identificationCode := code, firmwareVersion := fw }
  | .notAvailable => s
  | .acknowledgment => emit .onBacklightReady { s with backlightReady := true }

/-- `total_received + 1`, on every dispatch and before the check (42 R172, D10). -/
def countReception (s : State) : State :=
  { s with totalReceived := s.totalReceived + 1 }

/-- `dispatch(request_opcode, raw)` (42 R170). -/
def dispatch (opcode : Byte) (raw : Word) (s : State) : State :=
  if frameValid raw then deliverDecoded (decodeResponse opcode raw) (countReception s)
  else raiseCondition (.frameError opcode raw) (countReception s)

end Sys2Proof.Machine
end

