-- ==== Sys2Proof/Machine/Session.lean ====
section
/-!
DEFINITION. The Protocol Session State Machine: `start_session` and `on_tick` (spec/41_session_fsm.md).
-/

namespace Sys2Proof.Machine

/-- `start_session`, accepted path (41 R131): the start pulse, the four Session registers, the arming, the result. -/
def acceptSession (opcode : Byte) (s : State) : State :=
  answer .accepted
    (tickArm s.reloadValue
      { lineDrive .low (lineDrive .high s) with
        requestOpcode := opcode
        shiftRegister := loadedShift opcode
        tickCountdown := startTicks
        state := .start })

/-- `start_session`, busy path (41 R132). -/
def rejectBusy (opcode : Byte) (s : State) : State :=
  answer .busy (raiseCondition (.busyRejection opcode) s)

/-- `start_session` before a successful `init` (41 R133, D19): logged and refused, no state of the CORE changes. -/
def rejectUnconfigured (opcode : Byte) (s : State) : State :=
  answer .busy (diagLog (.notConfigured opcode) s)

/-- `start_session(opcode)`: the test of `configured` comes before the test of `state` (41 R131 to R133). -/
def startSession (opcode : Byte) (s : State) : State :=
  if !s.configured then rejectUnconfigured opcode s
  else if busy s then rejectBusy opcode s
  else acceptSession opcode s

/-- The Start action (41 R135). -/
def startAction (s : State) : State :=
  if countdownDone s then { s with tickCountdown := requestBits, state := .request } else s

/-- Drive the top bit of the shift register, then shift it out (41 R136, R150). -/
def sendBit (s : State) : State :=
  { lineDrive (levelOfBit (s.shiftRegister.getLsbD 31)) s with shiftRegister := shiftOut s.shiftRegister }

/-- The Request action (41 R136). -/
def requestAction (s : State) : State :=
  if countdownDone s then { sendBit s with tickCountdown := turnaroundTicks, state := .turnaround } else sendBit s

/-- The Turnaround action (41 R137): release the line at countdown 1, move on at countdown 0. -/
def turnaroundAction (s : State) : State :=
  if s.tickCountdown = 1 then lineBecomeInput (lineDrive .high s)
  else if countdownDone s then { s with tickCountdown := responseBits, state := .response }
  else s

/-- Sample the line once and shift the bit in (41 R138, R151). -/
def receiveBit (wire : Option Level) (s : State) : State :=
  { lineRead (sampledLevel wire s) s with
    shiftRegister := shiftIn s.shiftRegister (bitOfLevel (sampledLevel wire s)) }

/-- The end of the Response phase (41 R138): reload, Stop, line high and back to output, dispatch of what was received. -/
def finishResponse (s : State) : State :=
  dispatch s.requestOpcode s.shiftRegister
    (lineBecomeOutput (lineDrive .high { s with tickCountdown := stopTicks, state := .stop }))

/-- The Response action (41 R138). -/
def responseAction (wire : Option Level) (s : State) : State :=
  if countdownDone s then finishResponse (receiveBit wire s) else receiveBit wire s

/-- The Stop action (41 R139). -/
def stopAction (s : State) : State :=
  if countdownDone s then tickDisarm { s with state := .idle } else s

/-- The decrement every tick makes first, modulo 2^32 (41 R134, D4). -/
def decrementCountdown (s : State) : State :=
  { s with tickCountdown := s.tickCountdown - 1 }

/-- `on_tick()` (41 R134): the decrement, then exactly one action, chosen by the value `state` has when the tick
arrives. A tick in Idle and one that finds an unrecognized value raise a protocol fault (41 R140, R141). -/
def onTick (wire : Option Level) (s : State) : State :=
  match s.state with
  | .start => startAction (decrementCountdown s)
  | .request => requestAction (decrementCountdown s)
  | .turnaround => turnaroundAction (decrementCountdown s)
  | .response => responseAction wire (decrementCountdown s)
  | .stop => stopAction (decrementCountdown s)
  | .idle => raiseCondition (.protocolFault .tickWhileIdle) (decrementCountdown s)
  | .unrecognized code => raiseCondition (.protocolFault (.unrecognizedState code)) (decrementCountdown s)

end Sys2Proof.Machine
end

