-- ==== Sys2Proof/Machine/Requests.lean ====
section
/-!
DEFINITION. The meanings of the five request opcodes (spec/43_request_opcodes.md): each starts a session with its own
opcode (43 R200). The CORE transmits every opcode the same way (30 R94); what differs is the frame and, 51 ticks later,
the dispatcher's case.
-/

namespace Sys2Proof.Machine

/-- `TOUCH` (43 R201). -/
def execTouch (s : State) : Host.Outcome State Fault Refusal :=
  .next (startSession opTouch s)

/-- `IDENT` (43 R202). -/
def execIdent (s : State) : Host.Outcome State Fault Refusal :=
  .next (startSession opIdent s)

/-- `BLPROBE` (43 R204). -/
def execBlprobe (s : State) : Host.Outcome State Fault Refusal :=
  .next (startSession opBlprobe s)

/-- `SETBL level` (43 R203). The CORE does not interpret the level beyond sending it. -/
def execSetbl (level : BitVec 7) (s : State) : Host.Outcome State Fault Refusal :=
  .next (startSession (setblOpcode level) s)

/-- `ACK n` (43 R205). -/
def execAck (n : BitVec 7) (s : State) : Host.Outcome State Fault Refusal :=
  .next (startSession (ackOpcode n) s)

end Sys2Proof.Machine
end

