-- ==== Sys2Proof/Syntax.lean ====
section
/-!
DEFINITION. The instructions: the five rows of spec/opcode_table.json, the classes of the request opcode space
(30 R88, mnemonics by D24).
-/

namespace Sys2Proof

/-- One request opcode, by its class. -/
inductive Instr where
  /-- `TOUCH`, the touch-sample request (30 R89, 43 R201). -/
  | touch
  /-- `IDENT`, the identification request (30 R90, 43 R202). -/
  | ident
  /-- `BLPROBE`, the backlight-readiness probe (30 R92, 43 R204). -/
  | blprobe
  /-- `SETBL level`, the set-backlight-level request; the level is `opcode[6:0]` (30 R91, 43 R203). -/
  | setbl (level : BitVec 7)
  /-- `ACK n`, a generic acknowledgment-only request; the operand is the opcode `0nnnnnnn` (30 R93, 43 R205). -/
  | ack (n : BitVec 7)
  deriving DecidableEq, Repr

end Sys2Proof
end

