-- ==== Sys2Proof/Machine/Dispatch.lean ====
section
/-!
DEFINITION. One arm per constructor of Instr.
-/

namespace Sys2Proof.Machine

def exec (i : Instr) (s : State) : Host.Outcome State Fault Refusal :=
  match i with
  | .touch => Sys2Proof.Machine.execTouch s
  | .ident => Sys2Proof.Machine.execIdent s
  | .blprobe => Sys2Proof.Machine.execBlprobe s
  | .setbl level => Sys2Proof.Machine.execSetbl level s
  | .ack n => Sys2Proof.Machine.execAck n s

end Sys2Proof.Machine
end

