-- ==== Sys2Proof/WellFormed.lean ====
section
/-!
DEFINITION. Which instruction terms stand for a row of the opcode table.
-/

namespace Sys2Proof

/-- `ACK n` is every low opcode other than `0x40`, `0x60` and `0x7F`, which are the opcodes of TOUCH, IDENT and
BLPROBE (30 R93; the row's "excludes"). The other classes have no ill-formed operand: every 7-bit level is
encodable (30 R91). -/
def Instr.wellFormed : Instr → Bool
  | .touch => true
  | .ident => true
  | .blprobe => true
  | .setbl _ => true
  | .ack n => n != 0x40 && n != 0x60 && n != 0x7F

end Sys2Proof
end

