-- ==== Sys2Proof/Decode.lean ====
section
/-!
DEFINITION. The decoder of the request opcode space, total on any bytes, and the encoder (spec/30_encoding.md
sections 1 and 2, spec/opcode_table.json).
-/

namespace Sys2Proof

/-- Why bytes or a frame are no request. -/
inductive DecodeError where
  /-- There is no byte to read an opcode from. -/
  | noOpcode
  /-- The second byte of a request frame is not the check byte of its opcode (30 R81, R105). -/
  | badCheck
  deriving DecidableEq, Repr

/-- A row of the opcode table: its match and mask over the 8-bit opcode (30 R105). -/
structure OpcodeRow where
  pattern : Byte
  mask : Byte
  deriving DecidableEq, Repr

/-- An opcode matches a row. -/
def OpcodeRow.accepts (r : OpcodeRow) (opcode : Byte) : Bool :=
  opcode &&& r.mask == r.pattern

/-- The row of an instruction (30 R89 to R93). -/
def Instr.row : Instr → OpcodeRow
  | .touch => { pattern := 0x40, mask := 0xFF }
  | .ident => { pattern := 0x60, mask := 0xFF }
  | .blprobe => { pattern := 0x7F, mask := 0xFF }
  | .setbl _ => { pattern := 0x80, mask := 0x80 }
  | .ack _ => { pattern := 0x00, mask := 0x80 }

/-- The 14 disjoint patterns that together select the opcodes of `ACK` (30 R105). -/
def ackMatchList : List OpcodeRow :=
  [{ pattern := 0x00, mask := 0xC0 }, { pattern := 0x41, mask := 0xFF }, { pattern := 0x42, mask := 0xFE },
    { pattern := 0x44, mask := 0xFC }, { pattern := 0x48, mask := 0xF8 }, { pattern := 0x50, mask := 0xF0 },
    { pattern := 0x61, mask := 0xFF }, { pattern := 0x62, mask := 0xFE }, { pattern := 0x64, mask := 0xFC },
    { pattern := 0x68, mask := 0xF8 }, { pattern := 0x70, mask := 0xF8 }, { pattern := 0x78, mask := 0xFC },
    { pattern := 0x7C, mask := 0xFE }, { pattern := 0x7E, mask := 0xFF }]

/-- The instruction an opcode stands for: the exact rows first (priority 1), then the two masked rows (30 R94).
Every opcode is one (30 R88, R95). -/
def decodeOpcode (opcode : Byte) : Instr :=
  if Instr.touch.row.accepts opcode then .touch
  else if Instr.ident.row.accepts opcode then .ident
  else if Instr.blprobe.row.accepts opcode then .blprobe
  else if (Instr.setbl 0).row.accepts opcode then .setbl (opcode.extractLsb' 0 7)
  else .ack (opcode.extractLsb' 0 7)

/-- Decode from bytes: one byte is one request, the rest is left over. -/
def decodeBytes : List Byte → Except DecodeError (Instr × List Byte)
  | [] => .error .noOpcode
  | opcode :: rest => .ok (decodeOpcode opcode, rest)

/-- Decode a 16-bit request frame, opcode in bits 15:8 and check byte in bits 7:0 (30 R81). -/
def decodeFrame (frame : BitVec 16) : Except DecodeError Instr :=
  if checkByte (frame.extractLsb' 8 8) = frame.extractLsb' 0 8 then .ok (decodeOpcode (frame.extractLsb' 8 8))
  else .error .badCheck

/-- The opcode of an instruction, from the row's pattern of bits (30 R89 to R93). -/
def encodeOpcode : Instr → Byte
  | .touch => 0b01000000
  | .ident => 0b01100000
  | .blprobe => 0b01111111
  | .setbl level => 1#1 ++ level
  | .ack n => 0#1 ++ n

/-- The bytes handed to `start_session`: one opcode. -/
def encodeBytes (i : Instr) : List Byte :=
  [encodeOpcode i]

/-- The 16-bit request frame of an instruction (30 R81; the table's "encoding" column). -/
def encodeFrame (i : Instr) : BitVec 16 :=
  encodeOpcode i ++ checkByte (encodeOpcode i)

/-- The bytes of an instruction whose bits are `w`, numbered as the opcode table numbers them: the first byte is the
opcode (bits 7..0), bits from `nbits` on are 0. -/
def tableBytes (nbits w : Nat) : List Byte :=
  (List.range (max 1 (nbits / 8))).map fun k => BitVec.ofNat 8 ((w % 2 ^ nbits) >>> (8 * k))

/-- The instruction the decoder reads from a table word. -/
def decodeTableWord (nbits w : Nat) : Option Instr :=
  match decodeBytes (tableBytes nbits w) with
  | .ok (i, _) => some i
  | .error _ => none

end Sys2Proof
end

