-- ==== Sys2Proof/Machine/Fetch.lean ====
section
/-!
DEFINITION. Where the next call comes from: the inbox, oldest first. The CORE fetches no instructions (10 R27); the
calls of its agents come in one total order (20 R70, D18).
-/

namespace Sys2Proof.Machine

/-- The next call and the state without it; nothing where no agent calls. -/
def fetch (s : State) : Option (Input × State) :=
  match s.inbox with
  | [] => none
  | call :: rest => some (call, { s with inbox := rest })

/-- Place a start request before everything else in the inbox, on a CORE whose boot order is done: a start request has
its session only after a successful `init` (70 R293, 41 R133; assumption log 13). -/
def placeRequest (opcode : Byte) (s : State) : State :=
  { s with inbox := .start opcode :: s.inbox, configured := true }

/-- The opcode of a table word: its first byte. -/
def tableOpcode (nbits w : Nat) : Byte :=
  (tableBytes nbits w).headD 0

end Sys2Proof.Machine
end

