-- ==== Sys2Proof/Machine/Timing.lean ====
section
/-!
DEFINITION. The Timing Configuration (spec/44_timing_config.md).
-/

namespace Sys2Proof.Machine

/-- `derive_reload(ref, pre, rate)`: two truncating divisions, then minus one, on 32-bit unsigned values (44 R220, D20).
`init` calls it only where neither divisor is 0 and the quotient is not 0. -/
def deriveReload (ref pre rate : Word) : Word :=
  ref / (pre + 1) / rate - 1

/-- `init(ref, pre, rate)` (44 R226): refused while a session is active (44 R222, 93 U9), a configuration error where
the parameters cannot be derived, else the new reload value. -/
def init (ref pre rate : Word) (s : State) : Host.Outcome State Fault Refusal :=
  if busy s then .refused .initDuringSession
  else if configurationFails ref pre rate then .next (raiseCondition .configurationError s)
  else .next { s with reloadValue := deriveReload ref pre rate, configured := true }

/-- The call of `init` that initializes the CORE: "The target bit rate the CORE uses is `BIT_RATE = 9600`" (44 R221,
R226); clock rate and prescaler come from the platform. -/
def coreInit (ref pre : Word) : Input :=
  .init ref pre bitRate

end Sys2Proof.Machine
end

