-- ==== Sys2Proof/Machine/Deliver.lean ====
section
/-!
DEFINITION. One call of an agent as one atomic step (00 R13).
-/

namespace Sys2Proof.Machine

/-- Perform one call. A start request runs the instruction its opcode decodes to. -/
def deliver (call : Input) (s : State) : Host.Outcome State Fault Refusal :=
  match call with
  | .init ref pre rate => init ref pre rate s
  | .start opcode => exec (decodeOpcode opcode) s
  | .tick wire => .next (onTick wire s)
  | .shutdown => .next (shutdown s)
  | .reset => .next (resetCore s)
  | .handOver => .next (handOver s)

end Sys2Proof.Machine
end

