-- ==== Sys2Proof/Machine/Step.lean ====
section
/-!
DEFINITION. One step of the machine, and placing an instruction where the next step finds it.
-/

namespace Sys2Proof.Machine

/-- The oldest call of the inbox is performed. With no call the CORE waits: nothing changes (70 R292, R310;
assumption log 5). -/
def step (s : State) : Host.Outcome State Fault Refusal :=
  match fetch s with
  | none => .next s
  | some (call, s') => deliver call s'

/-- The instruction whose table bits are `w` as the next start request (assumption log 13). -/
def State.withFetchWord (s : State) (nbits w : Nat) : State :=
  placeRequest (tableOpcode nbits w) s

end Sys2Proof.Machine
end

