-- ==== Sys2Proof/Machine/Blocking.lean ====
section
/-!
DEFINITION. The blocking reference variant, as far as the spec describes it: the engine's frames on the line bit by bit,
the turnaround, the bit-serial CRC, at most three exchanges in one call (45 R236, R237, R239). Pure functions: the spec
gives the variant no entry point, no timing, no events and no counters (45 R242), so no step runs it
(assumption log 16).
-/

namespace Sys2Proof.Machine

/-- The request frame the variant sends: the same layout, its check byte from the bit-serial form (45 R236, R237). -/
def blockingFrame (opcode : Byte) : BitVec 16 :=
  opcode ++ crc8Serial crcSeed [opcode]

/-- The variant's check of a response, with the bit-serial form (45 R237). -/
def blockingAccepts (raw : Word) : Bool :=
  crc8Serial crcSeed [byte3 raw, byte2 raw, byte1 raw] == byte0 raw

/-- The line calls of a request: 16 bits, the most significant first (45 R236, 30 R81, R87). -/
def blockingSend (frame : BitVec 16) : List Effect :=
  (List.range 16).map fun j => .lineDrive (levelOfBit (frame.getLsbD (15 - j)))

/-- The line calls of the turnaround: the line is driven high and released (45 R236, 30 R82). -/
def blockingTurnaround : List Effect :=
  [.lineDrive .high, .lineBecomeInput]

/-- The line calls of a response: 32 samples; `wire j` is the level the peripheral presents at sample `j`
(45 R236, 30 R83). -/
def blockingReads (wire : Nat → Level) : List Effect :=
  (List.range 32).map fun j => .lineRead (wire j)

/-- The response the 32 samples make, the first on top (45 R236, 30 R83, R87). -/
def blockingReceive (wire : Nat → Level) : Word :=
  (List.range 32).foldl (fun raw j => shiftIn raw (bitOfLevel (wire j))) 0

/-- One exchange: the frame sent, the line calls from the first request bit to the last sample, the response received.
What the variant does on the line before the first of these calls and after the last (start pulse, stop, the return to
output mode) the spec leaves open (45 R242). -/
structure BlockingExchange where
  sent : BitVec 16
  calls : List Effect
  received : Word
  deriving DecidableEq, Repr

/-- One exchange for an opcode with the levels the peripheral presents (45 R236). -/
def blockingExchange (opcode : Byte) (wire : Nat → Level) : BlockingExchange where
  sent := blockingFrame opcode
  calls := blockingSend (blockingFrame opcode) ++ blockingTurnaround ++ blockingReads wire
  received := blockingReceive wire

/-- What one call of the variant did: its exchanges in order, and the response it accepted, if any. -/
structure BlockingOutcome where
  exchanges : List BlockingExchange
  accepted : Option Word
  deriving DecidableEq, Repr

/-- The exchanges of a call: `left` attempts remain, `k` were made; `wire k` is what the peripheral presents in
exchange `k` (45 R239). -/
def blockingTry (opcode : Byte) (wire : Nat → Nat → Level) : (left k : Nat) → BlockingOutcome
  | 0, _ => { exchanges := [], accepted := none }
  | left + 1, k =>
    if blockingAccepts (blockingReceive (wire k)) then
      { exchanges := [blockingExchange opcode (wire k)], accepted := some (blockingReceive (wire k)) }
    else
      { exchanges := blockingExchange opcode (wire k) :: (blockingTry opcode wire left (k + 1)).exchanges
        accepted := (blockingTry opcode wire left (k + 1)).accepted }

/-- One call of the variant: it returns at the first exchange whose response passes the check, or after the third
failure (45 R239, C4, D25). -/
def blockingCall (opcode : Byte) (wire : Nat → Nat → Level) : BlockingOutcome :=
  blockingTry opcode wire blockingMaxAttempts 0

/-- The decoded result of a call: the same decoding as the engine's (45 R241). -/
def blockingDecoded (opcode : Byte) (wire : Nat → Nat → Level) : Option Decoded :=
  (blockingCall opcode wire).accepted.map (decodeResponse opcode)

end Sys2Proof.Machine
end

