-- ==== Sys2Proof/Machine/Program.lean ====
section
/-!
DEFINITION. Session programs: the notation of 30 R102 (D24) as lists of calls. Not an input format of the hardware.
-/

namespace Sys2Proof.Machine

/-- One line of a session program (30 R102). -/
inductive ProgramLine where
  /-- `init ref, prescale, rate` -/
  | init (ref pre rate : Word)
  /-- `start OP` -/
  | start (opcode : Byte)
  /-- `tick N`: `N` ticks without a line value. -/
  | tick (n : Nat)
  /-- `rx b`: one tick in Response with `Line.read()` returning the bit. -/
  | rx (bit : Bool)
  /-- `rxbytes b3 b2 b1 b0`: 32 Response ticks sampling the four bytes most significant bit first. -/
  | rxbytes (b3 b2 b1 b0 : Byte)
  /-- `session OP -> b3 b2 b1 b0`: a whole 53-tick session. -/
  | session (opcode b3 b2 b1 b0 : Byte)
  /-- `shutdown` -/
  | shutdown
  deriving DecidableEq, Repr

/-- The 32 Response ticks that present a response, bit 31 first (20 R60). -/
def responseTicks (raw : Word) : List Input :=
  (List.range 32).map fun j => .tick (some (levelOfBit (raw.getLsbD (31 - j))))

/-- Four bytes as the word they make, the first received on top (20 R62). -/
def wordOfBytes (b3 b2 b1 b0 : Byte) : Word :=
  b3 ++ b2 ++ b1 ++ b0

/-- The calls of a line (30 R102). -/
def ProgramLine.calls : ProgramLine → List Input
  | .init ref pre rate => [.init ref pre rate]
  | .start opcode => [.start opcode]
  | .tick n => List.replicate n (.tick none)
  | .rx bit => [.tick (some (levelOfBit bit))]
  | .rxbytes b3 b2 b1 b0 => responseTicks (wordOfBytes b3 b2 b1 b0)
  | .session opcode b3 b2 b1 b0 =>
    .start opcode :: (List.replicate 19 (.tick none) ++ responseTicks (wordOfBytes b3 b2 b1 b0)
      ++ List.replicate 2 (.tick none))
  | .shutdown => [.shutdown]

/-- Put a program at the end of the inbox. -/
def loadProgram (p : List ProgramLine) (s : State) : State :=
  { s with inbox := s.inbox ++ p.flatMap ProgramLine.calls }

end Sys2Proof.Machine
end

