-- ==== Sys2Proof/Safety.lean ====
section
/-!
DEFINITION. The terms the statements use: what a session looks like from outside, the invariants, and the contract
of the environment.
-/

namespace Sys2Proof.Safety

open Sys2Proof.Machine

/-- The call at the head of the inbox. -/
def nextCall (s : State) : Option Input :=
  s.inbox.head?

/-- The state without the call at the head of its inbox. -/
def afterCall (s : State) : State :=
  { s with inbox := s.inbox.tail }

/-- The 53 ticks of one session with response `r`; `quiet` gives the levels on the wire at the 21 ticks that do not
read it (41 R144). -/
def sessionTicks (quiet : Nat → Option Level) (r : Word) : List Input :=
  (List.range 19).map (fun k => .tick (quiet k)) ++ responseTicks r ++ [.tick (quiet 19), .tick (quiet 20)]

/-- The ordered effects of one accepted session (41 R158), with what the dispatcher puts out at tick 51. The result
`accepted` is returned at the end of the starting call (41 R131). -/
def canonicalTrace (opcode : Byte) (reload r : Word) (dispatcher : List Effect) : List Effect :=
  [.lineDrive .high, .lineDrive .low, .tickArm reload, .result .accepted]
    ++ (List.range 16).map (fun j => .lineDrive (levelOfBit ((requestFrame opcode).getLsbD (15 - j))))
    ++ [.lineDrive .high, .lineBecomeInput]
    ++ (List.range 32).map (fun j => .lineRead (levelOfBit (r.getLsbD (31 - j))))
    ++ [.lineDrive .high, .lineBecomeOutput]
    ++ dispatcher
    ++ [.tickDisarm]

/-- The common end state of a session (43 R200): every register the session writes whatever its opcode, the trace, and
`rest`, the calls that come after it. -/
def sessionEnd (opcode : Byte) (r : Word) (dispatcher : List Effect) (rest : List Input) (s : State) : State :=
  { s with
    state := .idle
    tickCountdown := 0
    shiftRegister := r
    requestOpcode := opcode
    totalReceived := s.totalReceived + 1
    lineMode := .output
    lineLatch := .high
    tickArmed := false
    draws := s.draws + 32
    inbox := rest
    trace := s.trace ++ canonicalTrace opcode s.reloadValue r dispatcher }

/-- The pairs (`state`, `tick_countdown`) a session takes (41 R155) and what the shift register holds in each
(30 R85, R86; 41 R146). Nothing is said of Idle, where the Session registers are leftovers. -/
def SessionInv (s : State) : Prop :=
  match s.state with
  | .idle => True
  | .start => s.tickCountdown = 1 ∧ s.shiftRegister = loadedShift s.requestOpcode
  | .request =>
    1 ≤ s.tickCountdown.toNat ∧ s.tickCountdown.toNat ≤ 16 ∧
      s.shiftRegister = loadedShift s.requestOpcode <<< (16 - s.tickCountdown.toNat)
  | .turnaround => 1 ≤ s.tickCountdown.toNat ∧ s.tickCountdown.toNat ≤ 2 ∧ s.shiftRegister = 0
  | .response =>
    1 ≤ s.tickCountdown.toNat ∧ s.tickCountdown.toNat ≤ 32 ∧
      s.shiftRegister.toNat < 2 ^ (32 - s.tickCountdown.toNat)
  | .stop => 1 ≤ s.tickCountdown.toNat ∧ s.tickCountdown.toNat ≤ 2
  | .unrecognized _ => False

/-- What every step keeps of the Device State: the sentinel `0xFF` is never stored (10 R32), and the version is one the
formula can give (10 R33, 30 R99). -/
def DeviceInv (s : State) : Prop :=
  s.identificationCode ≠ 0xFF ∧ s.firmwareVersion.toNat ≤ 25755

/-- The line and the tick source as they stand between steps while the environment keeps its contract: the line in
input mode exactly on arrival of ticks 19 to 51 (41 R145), high in Stop (30 R84), the tick source armed only while a
session is active (44 R223), no protocol fault (41 R155). -/
def BoundaryInv (s : State) : Prop :=
  (s.state = .response ∨ (s.state = .turnaround ∧ s.tickCountdown = 1) → s.lineMode = .input) ∧
  (s.state = .start ∨ s.state = .request ∨ (s.state = .turnaround ∧ s.tickCountdown ≠ 1) ∨ s.state = .stop →
    s.lineMode = .output) ∧
  (s.state = .stop → s.lineLatch = .high) ∧
  (s.tickArmed = true → s.state ≠ .idle) ∧
  (∀ code, s.state ≠ .unrecognized code) ∧
  s.protocolFault = false

/-- What the environment owes the CORE at its next call: ticks only while the tick source is armed (10 R47), a first
start with the line in output mode and high (70 R294), reset with the tick source disarmed (10 R52, D17), the hand-over
between sessions (70 R293, R305). What it owes at `init` is `BitRateKept`. -/
def ContractKept (s : State) : Prop :=
  match nextCall s with
  | some (.tick _) => s.tickArmed = true
  | some (.start _) => s.state = .idle → s.lineMode = .output ∧ s.lineLatch = .high
  | some .reset => s.tickArmed = false
  | some .handOver => s.state = .idle
  | some (.init _ _ _) => True
  | some .shutdown => True
  | none => True

/-- A configured CORE holds a reload value derived for the target bit rate from some clock rate and prescaler
(44 R221). -/
def TimingInv (s : State) : Prop :=
  s.configured = true →
    ∃ ref pre : Word, configurationFails ref pre bitRate = false ∧ s.reloadValue = deriveReload ref pre bitRate

/-- What the host owes the CORE at its next call: it initializes for the target bit rate (44 R221, R226). -/
def BitRateKept (s : State) : Prop :=
  match nextCall s with
  | some (.init ref pre rate) => .init ref pre rate = coreInit ref pre
  | some (.start _) => True
  | some (.tick _) => True
  | some .shutdown => True
  | some .reset => True
  | some .handOver => True
  | none => True

/-- Completed receptions, one after another: what the dispatcher does to the counters over a history (42 R172, R175). -/
def dispatchAll (frames : List (Byte × Word)) (s : State) : State :=
  frames.foldl (fun t f => dispatch f.1 f.2 t) s

/-- A diagnostic or an event: all a dispatcher may put out (42 R182, R184). -/
def isLog : Effect → Bool
  | .log _ => true
  | .lineDrive _ | .lineBecomeInput | .lineBecomeOutput | .lineRead _ | .tickArm _ | .tickDisarm | .timerCancel
  | .emit _ | .result _ => false

/-- An emitted event (10 R48). -/
def isEvent : Effect → Bool
  | .emit _ => true
  | .lineDrive _ | .lineBecomeInput | .lineBecomeOutput | .lineRead _ | .tickArm _ | .tickDisarm | .timerCancel
  | .log _ | .result _ => false

end Sys2Proof.Safety
end

