-- ==== Sys2Proof/Certificates/Slice0/Obligations.lean ====
section
/-!
DEFINITION. The statements for the provers.
-/

open Sys2Proof
open Sys2Proof.Machine
open Sys2Proof.Safety

/-! ### The CRC8 Engine -/

/-- 40 R115: the table form and the bit-serial form agree on every seed and every stream. -/
def Obligations.CrcTableFormEqualsSerialForm : Prop :=
  ∀ (init : Byte) (stream : List Byte), crc8Table init stream = crc8Serial init stream

/-- 40 R118(d): `crc8` is linear over GF(2) in seed and stream jointly, for streams of equal length (the bit
form of the CRC is the spec's own D1, assumption log 7). -/
def Obligations.CrcIsLinearInSeedAndStream : Prop :=
  ∀ (i j : Byte) (s t : List Byte), s.length = t.length →
    crc8 (i ^^^ j) (List.zipWith (· ^^^ ·) s t) = crc8 i s ^^^ crc8 j t

/-- 40 R118(e): for a fixed seed and fixed leading bytes, `crc8` is a bijection of the last byte (D1, assumption
log 7). -/
def Obligations.CrcIsBijectiveInTheLastByte : Prop :=
  ∀ (init : Byte) (leading : List Byte) (c : Byte), ∃ b : Byte,
    crc8 init (leading ++ [b]) = c ∧ ∀ b' : Byte, crc8 init (leading ++ [b']) = c → b' = b

/-- 40 R118(a), (b), (c), (f) and the rest of (e), beside the two statements before this one: an empty stream gives the
seed; a stream may be cut in two; a byte equal to the seed gives 0; the table is a bijection, and so is `crc8` of the
seed for a fixed stream; the seed contributes a value that depends on the length only, for the CORE's seed `0x4D`,
`0xB2` and `0x17` at lengths 1, 3 and 4 (D1, assumption log 7). -/
def Obligations.CrcObeysItsFurtherLaws : Prop :=
  (∀ init : Byte, crc8 init [] = init) ∧
  (∀ (init : Byte) (s t : List Byte), crc8 init (s ++ t) = crc8 (crc8 init s) t) ∧
  (∀ c : Byte, crc8 c [c] = 0) ∧
  (∀ c : Byte, ∃ i : Byte, crcRom i = c ∧ ∀ i' : Byte, crcRom i' = c → i' = i) ∧
  (∀ (stream : List Byte) (c : Byte), ∃ init : Byte,
    crc8 init stream = c ∧ ∀ init' : Byte, crc8 init' stream = c → init' = init) ∧
  (∀ (init : Byte) (stream : List Byte),
    crc8 init stream = crc8 0 stream ^^^ crcSeedContribution init stream.length) ∧
  crcSeedContribution crcSeed 1 = 0x4D ∧ crcSeedContribution crcSeed 3 = 0xB2 ∧ crcSeedContribution crcSeed 4 = 0x17

/-- 40 R122: flipping one, two or three bits of a valid response makes it a frame error. The flipped bits are `i`, `j`
and `k`, which may coincide (D1, assumption log 7). -/
def Obligations.UpToThreeFlippedBitsAreDetected : Prop :=
  ∀ (raw : Word) (i j k : Fin 32), frameValid raw = true →
    frameValid (raw ^^^ (BitVec.twoPow 32 i ||| BitVec.twoPow 32 j ||| BitVec.twoPow 32 k)) = false

/-- 40 R120: a response is valid exactly when the CRC over all four of its bytes, the check byte last, is 0; and
42 R185(b): a line stuck at one level never gives a valid one. -/
def Obligations.ValidMeansCrcOverTheFrameIsZero : Prop :=
  (∀ raw : Word, frameValid raw = true ↔ crc8 crcSeed [byte3 raw, byte2 raw, byte1 raw, byte0 raw] = 0) ∧
  frameValid 0 = false ∧ frameValid (BitVec.allOnes 32) = false

/-! ### Encoding -/

/-- Decode and encode agree on request frames: every well-formed instruction is read back from its frame, and a frame
that decodes is the frame of the instruction it decodes to (30 R81, R88). -/
def Obligations.DecodeInvertsEncodeOnFrames : Prop :=
  (∀ i : Instr, i.wellFormed = true → decodeFrame (encodeFrame i) = .ok i) ∧
  (∀ (frame : BitVec 16) (i : Instr), decodeFrame frame = .ok i → i.wellFormed = true ∧ encodeFrame i = frame)

/-- 30 R88, R94: every opcode is exactly one instruction, and a well-formed one. -/
def Obligations.EveryOpcodeIsOneInstruction : Prop :=
  ∀ opcode : Byte, (decodeOpcode opcode).wellFormed = true ∧ encodeOpcode (decodeOpcode opcode) = opcode ∧
    ∀ i : Instr, i.wellFormed = true → encodeOpcode i = opcode → i = decodeOpcode opcode

/-- 30 R105: the row's match list selects exactly the opcodes of `ACK`. -/
def Obligations.AckMatchListSelectsTheAckClass : Prop :=
  ∀ opcode : Byte,
    ackMatchList.any (fun r => r.accepts opcode) = true ↔ ∃ n : BitVec 7, decodeOpcode opcode = .ack n

/-- Words written out from the table's encodings decode to their instructions, and their frames carry the check
bytes the spec lists (43 R201 to R205; the check bytes rest on D1, assumption log 7). -/
def Obligations.SampleWordsDecode : Prop :=
  decodeOpcode 0b01000000 = .touch ∧ decodeOpcode 0b01100000 = .ident ∧ decodeOpcode 0b01111111 = .blprobe ∧
  decodeOpcode 0b11000000 = .setbl 64 ∧ decodeOpcode 0b11111111 = .setbl 127 ∧
  decodeOpcode 0b00000001 = .ack 1 ∧ decodeOpcode 0b01000001 = .ack 0x41 ∧
  encodeFrame .touch = 0x408A ∧ encodeFrame .ident = 0x606A ∧ encodeFrame .blprobe = 0x7F37 ∧
  encodeFrame (.setbl 64) = 0xC003 ∧ encodeFrame (.ack 1) = 0x014A

/-! ### The step -/

/-- A step at a start request is `exec` of the instruction the opcode decodes to, on the state without that request. -/
def Obligations.StepRunsTheDecodedRequest : Prop :=
  ∀ (s : State) (opcode : Byte) (rest : List Input), s.inbox = .start opcode :: rest →
    step s = exec (decodeOpcode opcode) { s with inbox := rest }

/-- A table word placed where the step looks for its next request is the instruction the decoder reads from it, run on
a configured CORE (the model's choice, assumption log 13). -/
def Obligations.PlacedWordRunsNext : Prop :=
  ∀ (s : State) (nbits w : Nat) (i : Instr), decodeTableWord nbits w = some i →
    step (s.withFetchWord nbits w) = exec i { s with configured := true }

/-- With no call in the inbox the CORE waits (70 R292; the model's choice of a step that changes nothing, assumption
log 5). -/
def Obligations.WithoutACallNothingChanges : Prop :=
  ∀ s : State, s.inbox = [] → step s = .next s

/-- 60 R255: every step answers a next state, but for `init` during a session. -/
def Obligations.OnlyInitDuringASessionIsRefused : Prop :=
  ∀ s : State, (∃ t, step s = .next t) ∨
    (step s = .refused .initDuringSession ∧ s.state ≠ .idle ∧
      ∃ ref pre rate rest, s.inbox = .init ref pre rate :: rest)

/-- 44 R222, R226, 93 U9: `init` while `state` is not Idle is refused by name, whatever its parameters and whatever
value `state` has, an unrecognized one included (the spec gives it no effect, assumption log 22). -/
def Obligations.InitDuringASessionIsRefused : Prop :=
  ∀ (s : State) (ref pre rate : Word) (rest : List Input), s.inbox = .init ref pre rate :: rest → s.state ≠ .idle →
    step s = .refused .initDuringSession

/-! ### Requests -/

/-- Accepted: every instruction, on a configured CORE in Idle (41 R131; that `request_opcode` is written here is D8,
assumption log 9). -/
def Obligations.RequestsAreAcceptedWhenIdle : Prop :=
  ∀ (i : Instr) (s : State), s.configured = true → s.state = .idle →
    exec i s = .next
      { s with
        state := .start
        tickCountdown := 1
        shiftRegister := encodeFrame i ++ (0 : BitVec 16)
        requestOpcode := encodeOpcode i
        lineLatch := .low
        tickArmed := true
        trace := s.trace ++ [.lineDrive .high, .lineDrive .low, .tickArm s.reloadValue, .result .accepted] }

/-- Busy: every instruction, on a configured CORE that is not in Idle, an unrecognized state included (41 R132; the
counter is D9, assumption log 9). -/
def Obligations.RequestsWhileBusyAreRejected : Prop :=
  ∀ (i : Instr) (s : State), s.configured = true → s.state ≠ .idle →
    exec i s = .next
      { s with
        totalBusy := s.totalBusy + 1
        trace := s.trace ++ [.log (.dropped (encodeOpcode i)), .result .busy] }

/-- Not configured: every instruction is refused before the state is looked at (41 R133, D19, assumption log 9). -/
def Obligations.RequestsBeforeInitAreRefused : Prop :=
  ∀ (i : Instr) (s : State), s.configured = false →
    exec i s = .next
      { s with trace := s.trace ++ [.log (.notConfigured (encodeOpcode i)), .result .busy] }

/-! ### Ticks -/

/-- 41 R135. -/
def Obligations.StartTickReloadsSixteenAndMovesToRequest : Prop :=
  ∀ (s : State) (w : Option Level) (rest : List Input), s.inbox = .tick w :: rest → s.state = .start →
    step s = .next
      (if s.tickCountdown - 1 = 0 then { s with inbox := rest, tickCountdown := 16, state := .request }
       else { s with inbox := rest, tickCountdown := s.tickCountdown - 1 })

/-- 41 R136; that a 1 is sent as high is the spec's own D2 (assumption log 8). -/
def Obligations.RequestTickDrivesTheTopBitAndShifts : Prop :=
  ∀ (s : State) (w : Option Level) (rest : List Input) (bit : Level), s.inbox = .tick w :: rest → s.state = .request →
    bit = (if s.shiftRegister.getLsbD 31 then .high else .low) →
    step s = .next
      (if s.tickCountdown - 1 = 0 then
        { s with
          inbox := rest, tickCountdown := 2, state := .turnaround, shiftRegister := s.shiftRegister <<< 1
          lineLatch := bit, trace := s.trace ++ [.lineDrive bit] }
       else
        { s with
          inbox := rest, tickCountdown := s.tickCountdown - 1, shiftRegister := s.shiftRegister <<< 1
          lineLatch := bit, trace := s.trace ++ [.lineDrive bit] })

/-- 41 R137; the order of the two line calls is the spec's own D7. -/
def Obligations.TurnaroundTickReleasesTheLineThenMovesToResponse : Prop :=
  ∀ (s : State) (w : Option Level) (rest : List Input), s.inbox = .tick w :: rest → s.state = .turnaround →
    step s = .next
      (if s.tickCountdown - 1 = 1 then
        { s with
          inbox := rest, tickCountdown := 1, lineLatch := .high, lineMode := .input
          trace := s.trace ++ [.lineDrive .high, .lineBecomeInput] }
       else if s.tickCountdown - 1 = 0 then { s with inbox := rest, tickCountdown := 32, state := .response }
       else { s with inbox := rest, tickCountdown := s.tickCountdown - 1 })

/-- 41 R138 for a Response tick that is not the last: one sample enters at bit 0; `high` is 1 (30 R87, the spec's own
D2, assumption log 8). A tick that carries no level samples a free value. -/
def Obligations.ResponseTickShiftsOneSampleIn : Prop :=
  ∀ (s : State) (w : Option Level) (rest : List Input) (level : Level), s.inbox = .tick w :: rest →
    s.state = .response → s.tickCountdown - 1 ≠ 0 → level = w.getD (Config.freeLevel s.draws) →
    step s = .next
      { s with
        inbox := rest
        tickCountdown := s.tickCountdown - 1
        shiftRegister := (s.shiftRegister <<< 1) ||| (if level = .high then 1 else 0)
        draws := s.draws + 1
        trace := s.trace ++ [.lineRead level] }

/-- 41 R138 for the last Response tick: the sample, the reload, Stop, the line high and back to output, then the
dispatcher on the word that includes the last sample (order by the spec's own D7, polarity by D2). -/
def Obligations.LastResponseTickReturnsTheLineAndDispatches : Prop :=
  ∀ (s : State) (w : Option Level) (rest : List Input) (level : Level) (raw : Word), s.inbox = .tick w :: rest →
    s.state = .response → s.tickCountdown = 1 → level = w.getD (Config.freeLevel s.draws) →
    raw = (s.shiftRegister <<< 1) ||| (if level = .high then 1 else 0) →
    step s = .next
      (dispatch s.requestOpcode raw
        { s with
          inbox := rest
          tickCountdown := 2
          state := .stop
          shiftRegister := raw
          draws := s.draws + 1
          lineLatch := .high
          lineMode := .output
          trace := s.trace ++ [.lineRead level, .lineDrive .high, .lineBecomeOutput] })

/-- 41 R139: one Stop tick; and from countdown 2 the trailing delay of two ticks, through which the line stays as it
is. -/
def Obligations.StopTickReturnsToIdleAndDisarms : Prop :=
  (∀ (s : State) (w : Option Level) (rest : List Input), s.inbox = .tick w :: rest → s.state = .stop →
    step s = .next
      (if s.tickCountdown - 1 = 0 then
        { s with
          inbox := rest, tickCountdown := 0, state := .idle, tickArmed := false
          trace := s.trace ++ [.tickDisarm] }
       else { s with inbox := rest, tickCountdown := s.tickCountdown - 1 })) ∧
  (∀ (s : State) (w v : Option Level) (rest : List Input), s.inbox = .tick w :: .tick v :: rest → s.state = .stop →
    s.tickCountdown = 2 →
    core.run 1 s = .next { s with inbox := .tick v :: rest, tickCountdown := 1 } ∧
    core.run 2 s = .next
      { s with
        inbox := rest, tickCountdown := 0, state := .idle, tickArmed := false
        trace := s.trace ++ [.tickDisarm] })

/-- Taking the protocol fault: a tick that finds an unrecognized state (41 R140, 60 R253; the spec's own D5) or Idle
(41 R141, the spec's own D6) disarms, sets the sticky flag, logs the kind and leaves Idle; nothing else changes but the
countdown. -/
def Obligations.StrayTicksRaiseAProtocolFault : Prop :=
  ∀ (s : State) (w : Option Level) (rest : List Input) (kind : ProtocolFaultKind), s.inbox = .tick w :: rest →
    (s.state = .idle ∧ kind = .tickWhileIdle ∨ ∃ code, s.state = .unrecognized code ∧ kind = .unrecognizedState code) →
    step s = .next
      { s with
        inbox := rest
        tickCountdown := s.tickCountdown - 1
        state := .idle
        protocolFault := true
        tickArmed := false
        trace := s.trace ++ [.tickDisarm, .log (.protocolFault kind)] }

/-! ### The dispatcher -/

/-- 42 R173 to R175: a response that fails the check is counted, logged and reported, and nothing is decoded (the unit
of the warm-up is D10, log and event in it D11, assumption log 10). -/
def Obligations.FailedCheckIsAFrameError : Prop :=
  ∀ (opcode : Byte) (raw : Word) (s : State), frameValid raw = false →
    dispatch opcode raw s =
      { s with
        totalReceived := s.totalReceived + 1
        totalError := if 100 < s.totalReceived + 1 then s.totalError + 1 else s.totalError
        trace := s.trace ++ [.log (.frameError opcode raw), .emit (.onFrameError opcode raw)] }

/-- 42 R178, 43 R201: a valid touch response is counted and reported with its two coordinates (that a released touch is
reported too is D31, assumption log 10). -/
def Obligations.ValidTouchResponseIsReported : Prop :=
  ∀ (raw : Word) (s : State) (x y : BitVec 12), frameValid raw = true →
    x = raw.extractLsb' 28 4 ++ raw.extractLsb' 16 8 → y = raw.extractLsb' 24 4 ++ raw.extractLsb' 8 8 →
    dispatch 0x40 raw s =
      { s with
        totalReceived := s.totalReceived + 1
        trace := s.trace ++ [.emit (.onTouch x y (decide (x ≠ 0xFFF ∧ y ≠ 0xFFF)))] }

/-- 42 R179, 43 R202: a valid identification response stores code and version, unless its code is `0xFF`, when it
stores nothing and reports nothing (the event is D12, assumption log 10). -/
def Obligations.ValidIdentificationIsStoredUnlessUnavailable : Prop :=
  ∀ (raw : Word) (s : State) (code : Byte) (version : BitVec 16), frameValid raw = true →
    code = raw.extractLsb' 24 8 →
    version = (raw.extractLsb' 16 8).setWidth 16 * 100 + (raw.extractLsb' 8 8).setWidth 16 →
    dispatch 0x60 raw s =
      if code = 0xFF then { s with totalReceived := s.totalReceived + 1 }
      else
        { s with
          totalReceived := s.totalReceived + 1
          identificationCode := code
          firmwareVersion := version
          trace := s.trace ++ [.emit (.onIdentification code version)] }

/-- 42 R180: a valid response to any other opcode sets `backlight_ready` and reports it (the event is D12, assumption
log 10). -/
def Obligations.ValidAcknowledgmentSetsBacklightReady : Prop :=
  ∀ (opcode : Byte) (raw : Word) (s : State), frameValid raw = true → opcode ≠ 0x40 → opcode ≠ 0x60 →
    dispatch opcode raw s =
      { s with
        totalReceived := s.totalReceived + 1
        backlightReady := true
        trace := s.trace ++ [.emit .onBacklightReady] }

/-- 30 R99: `byte2 * 100 + byte1` does not overflow 16 bits, its largest value is 25755, and a week above 99 carries
into the hundreds and is not rejected. -/
def Obligations.FirmwareVersionNeverOverflows : Prop :=
  (∀ raw : Word, (firmwareOf raw).toNat = (byte2 raw).toNat * 100 + (byte1 raw).toNat) ∧
  (∀ raw : Word, (firmwareOf raw).toNat ≤ 25755) ∧
  (∀ raw : Word, byte2 raw = 255 → byte1 raw = 255 → (firmwareOf raw).toNat = 25755) ∧
  (∀ raw : Word, byte2 raw = 23 → byte1 raw = 7 → (firmwareOf raw).toNat = 2307) ∧
  (∀ raw : Word, 99 < (byte1 raw).toNat →
    (firmwareOf raw).toNat = ((byte2 raw).toNat + (byte1 raw).toNat / 100) * 100 + (byte1 raw).toNat % 100) ∧
  (∀ (raw : Word) (s : State), frameValid raw = true → byte3 raw ≠ 0xFF →
    (dispatch 0x60 raw s).firmwareVersion.toNat = (byte2 raw).toNat * 100 + (byte1 raw).toNat)

/-- 42 R184, R182: the dispatcher writes no Session register, calls neither line nor tick source, and puts out at most
one log line and at most one event; the tick that ran it ends in (Stop, 2). -/
def Obligations.DispatcherLeavesTheSessionAlone : Prop :=
  (∀ (opcode : Byte) (raw : Word) (s : State),
    (dispatch opcode raw s).state = s.state ∧
    (dispatch opcode raw s).tickCountdown = s.tickCountdown ∧
    (dispatch opcode raw s).shiftRegister = s.shiftRegister ∧
    (dispatch opcode raw s).requestOpcode = s.requestOpcode ∧
    (dispatch opcode raw s).lineMode = s.lineMode ∧
    (dispatch opcode raw s).lineLatch = s.lineLatch ∧
    (dispatch opcode raw s).tickArmed = s.tickArmed ∧
    (dispatch opcode raw s).inbox = s.inbox ∧
    ∃ out : List Effect, (dispatch opcode raw s).trace = s.trace ++ out ∧
      out.all (fun e => isLog e || isEvent e) = true ∧ out.countP isLog ≤ 1 ∧ out.countP isEvent ≤ 1) ∧
  (∀ (s : State) (w : Option Level) (rest : List Input), s.inbox = .tick w :: rest → s.state = .response →
    s.tickCountdown = 1 → ∃ t, step s = .next t ∧ t.state = .stop ∧ t.tickCountdown = 2)

/-- 42 R181: a second dispatch with the same arguments leaves the Device State as the first left it. -/
def Obligations.DispatchIsIdempotentOnDeviceState : Prop :=
  ∀ (opcode : Byte) (raw : Word) (s t u : State), t = dispatch opcode raw s → u = dispatch opcode raw t →
    u.identificationCode = t.identificationCode ∧ u.firmwareVersion = t.firmwareVersion ∧
    u.backlightReady = t.backlightReady

/-- 42 R172, R175 over a whole history, from fresh counters: receptions of any kind are counted, and of the receptions
after the first 100 the bad ones are errors (the unit of the warm-up is the spec's own D10, assumption log 10). -/
def Obligations.WarmupSuppressesTheFirstHundredReceptions : Prop :=
  ∀ (frames : List (Byte × Word)) (s : State), s.totalReceived = 0 → s.totalError = 0 → frames.length < 2 ^ 32 →
    (dispatchAll frames s).totalReceived.toNat = frames.length ∧
    (dispatchAll frames s).totalError.toNat = (frames.drop 100).countP (fun f => !frameValid f.2)

/-! ### Timing configuration and the host's operations -/

/-- 44 R226: a successful `init` in Idle stores the derived value and configures; it touches nothing else. The
conditions are stated on unsigned integers (widths and causes are the spec's own D20). -/
def Obligations.InitStoresTheDerivedReload : Prop :=
  ∀ (s : State) (ref pre rate : Word) (rest : List Input), s.inbox = .init ref pre rate :: rest → s.state = .idle →
    rate ≠ 0 → pre ≠ BitVec.allOnes 32 → (pre.toNat + 1) * rate.toNat ≤ ref.toNat →
    step s = .next
      { s with
        inbox := rest
        reloadValue := BitVec.ofNat 32 (ref.toNat / ((pre.toNat + 1) * rate.toNat) - 1)
        configured := true }

/-- 44 R224, R226, 60 R254: taking the configuration error: `init` in Idle with parameters that give no reload value
clears `configured` and logs (the list of causes is the spec's own D20). -/
def Obligations.InitFailsWithoutAReload : Prop :=
  ∀ (s : State) (ref pre rate : Word) (rest : List Input), s.inbox = .init ref pre rate :: rest → s.state = .idle →
    (rate = 0 ∨ pre = BitVec.allOnes 32 ∨ ref.toNat < (pre.toNat + 1) * rate.toNat) →
    step s = .next { s with inbox := rest, configured := false, trace := s.trace ++ [.log .configError] }

/-- 44 R220: the two truncating divisions equal one by the product, on every input that derives a value. -/
def Obligations.ReloadIsOneTruncatingDivision : Prop :=
  ∀ ref pre rate : Word, configurationFails ref pre rate = false →
    (deriveReload ref pre rate).toNat + 1 = ref.toNat / ((pre.toNat + 1) * rate.toNat)

/-- 60 R275: shutdown cancels the scheduling timer, disarms the tick source and changes nothing else, whatever the
state (the spec's own D28). -/
def Obligations.ShutdownDisarmsAndChangesNothingElse : Prop :=
  ∀ (s : State) (rest : List Input), s.inbox = .shutdown :: rest →
    step s = .next { s with inbox := rest, tickArmed := false, trace := s.trace ++ [.timerCancel, .tickDisarm] }

/-- 10 R52: the reset event gives every item with a stated value that value, whatever the state; of the unspecified
registers nothing is said (values by the spec's own D9, D14, D19). That it leaves the line and the tick source, which
lie outside the CORE, as they are is the model's choice (assumption log 3), and so are the trace and the inbox (assumption
logs 4 and 5). -/
def Obligations.ResetGivesTheStatedValues : Prop :=
  ∀ (s : State) (rest : List Input), s.inbox = .reset :: rest → ∃ t : State, step s = .next t ∧
    t.state = .idle ∧ t.identificationCode = 0 ∧ t.firmwareVersion = 0 ∧ t.backlightReady = false ∧
    t.totalReceived = 0 ∧ t.totalError = 0 ∧ t.totalBusy = 0 ∧ t.protocolFault = false ∧ t.configured = false ∧
    t.lineMode = s.lineMode ∧ t.lineLatch = s.lineLatch ∧ t.tickArmed = s.tickArmed ∧ t.trace = s.trace ∧
    t.inbox = rest

/-- The machine right after reset has the values of 10 R52, with the line and the tick source as they are required
before the first session (the spec's own D16, D17; assumption log 3). -/
def Obligations.FreshMachineHasTheResetValues : Prop :=
  core.reset.state = .idle ∧ core.reset.identificationCode = 0 ∧ core.reset.firmwareVersion = 0 ∧
  core.reset.backlightReady = false ∧ core.reset.totalReceived = 0 ∧ core.reset.totalError = 0 ∧
  core.reset.totalBusy = 0 ∧ core.reset.protocolFault = false ∧ core.reset.configured = false ∧
  core.reset.lineMode = .output ∧ core.reset.lineLatch = .high ∧ core.reset.tickArmed = false

/-- 70 R293(2), R294: the host's hand-over puts the line in output mode and high and the tick source disarmed, and
touches nothing of the CORE (the model's input, assumption log 3). -/
def Obligations.HandOverRestoresTheLine : Prop :=
  ∀ (s : State) (rest : List Input), s.inbox = .handOver :: rest →
    step s = .next { s with inbox := rest, lineMode := .output, lineLatch := .high, tickArmed := false }

/-! ### Whole sessions -/

/-- 41 R143: a session takes exactly 53 ticks, whatever the opcode and the samples: after 52 it is in (Stop, 1) and
the tick source is armed, after every fewer it is not in Idle and armed, after 53 it is in Idle and disarmed. -/
def Obligations.SessionTakesExactlyFiftyThreeTicks : Prop :=
  ∀ (s : State) (opcode : Byte) (wires : List (Option Level)) (rest : List Input),
    s.configured = true → s.state = .idle → wires.length = 53 →
    s.inbox = .start opcode :: (wires.map .tick ++ rest) →
    (∀ k ≤ 52, ∃ t, core.run (1 + k) s = .next t ∧ t.state ≠ .idle ∧ t.tickArmed = true) ∧
    (∃ t, core.run 53 s = .next t ∧ t.state = .stop ∧ t.tickCountdown = 1 ∧ t.tickArmed = true) ∧
    (∃ t, core.run 54 s = .next t ∧ t.state = .idle ∧ t.tickArmed = false ∧ t.inbox = rest)

/-- 43 R200, 41 R158: a session of any instruction, any response and any levels on the wire outside the Response phase,
whole: the end state is the dispatcher's on the response, the Session registers, line and tick source are those of R200,
and the effects are the canonical trace around what the dispatcher puts out. The levels, the order inside a step and
when the opcode is written are the spec's own D2, D7 and D8 (assumption logs 8, 11, 9). -/
def Obligations.SessionRunsItsCanonicalTrace : Prop :=
  ∀ (i : Instr) (s : State) (quiet : Nat → Option Level) (r : Word) (rest : List Input) (out : List Effect),
    s.configured = true → s.state = .idle → s.inbox = sessionTicks quiet r ++ rest →
    (dispatch (encodeOpcode i) r s).trace = s.trace ++ out →
    ∃ t, exec i s = .next t ∧
      core.run 53 t = .next
        { sessionEnd (encodeOpcode i) r out rest s with
          totalError := (dispatch (encodeOpcode i) r s).totalError
          identificationCode := (dispatch (encodeOpcode i) r s).identificationCode
          firmwareVersion := (dispatch (encodeOpcode i) r s).firmwareVersion
          backlightReady := (dispatch (encodeOpcode i) r s).backlightReady }

/-- 43 R201: `TOUCH`, the whole effect of a session with a valid response (a released touch is reported by the spec's
own D31, assumption log 10; trace and end state rest on D2, D7, D8, assumption logs 8, 11, 9). -/
def Obligations.TouchSessionReportsTheSample : Prop :=
  ∀ (s : State) (quiet : Nat → Option Level) (r : Word) (rest : List Input) (x y : BitVec 12),
    s.configured = true → s.state = .idle → s.inbox = sessionTicks quiet r ++ rest → frameValid r = true →
    x = r.extractLsb' 28 4 ++ r.extractLsb' 16 8 → y = r.extractLsb' 24 4 ++ r.extractLsb' 8 8 →
    ∃ t, exec .touch s = .next t ∧
      core.run 53 t = .next
        (sessionEnd 0x40 r [.emit (.onTouch x y (decide (x ≠ 0xFFF ∧ y ≠ 0xFFF)))] rest s)

/-- 43 R202: `IDENT`, the whole effect of a session with a valid response, available or not (the event is the spec's own
D12, assumption log 10; trace and end state rest on D2, D7, D8, assumption logs 8, 11, 9). -/
def Obligations.IdentSessionStoresTheIdentification : Prop :=
  ∀ (s : State) (quiet : Nat → Option Level) (r : Word) (rest : List Input) (code : Byte) (version : BitVec 16),
    s.configured = true → s.state = .idle → s.inbox = sessionTicks quiet r ++ rest → frameValid r = true →
    code = r.extractLsb' 24 8 →
    version = (r.extractLsb' 16 8).setWidth 16 * 100 + (r.extractLsb' 8 8).setWidth 16 →
    ∃ t, exec .ident s = .next t ∧
      core.run 53 t = .next
        (if code = 0xFF then sessionEnd 0x60 r [] rest s
         else
          { sessionEnd 0x60 r [.emit (.onIdentification code version)] rest s with
            identificationCode := code
            firmwareVersion := version })

/-- 43 R203 to R205: `SETBL`, `BLPROBE` and `ACK`, the whole effect of a session with a valid response (the event is the
spec's own D12, assumption log 10; trace and end state rest on D2, D7, D8, assumption logs 8, 11, 9). -/
def Obligations.AcknowledgedSessionsSetBacklightReady : Prop :=
  ∀ (i : Instr) (s : State) (quiet : Nat → Option Level) (r : Word) (rest : List Input),
    ((∃ level, i = .setbl level) ∨ i = .blprobe ∨ ∃ n, i = .ack n ∧ i.wellFormed = true) →
    s.configured = true → s.state = .idle → s.inbox = sessionTicks quiet r ++ rest → frameValid r = true →
    ∃ t, exec i s = .next t ∧
      core.run 53 t = .next
        { sessionEnd (encodeOpcode i) r [.emit .onBacklightReady] rest s with backlightReady := true }

/-- 41 R153, 60 R252, R256: a frame error changes neither the course of the session nor the Device State, whatever the
instruction: it is counted past the warm-up, logged and reported. The unit of the warm-up, compared after the increment,
is the spec's own D10, and the log and the event in the warm-up are its D11 (assumption log 10); trace and end state
rest on D2, D7, D8 (assumption logs 8, 11, 9). -/
def Obligations.FrameErrorSessionLeavesDeviceState : Prop :=
  ∀ (i : Instr) (s : State) (quiet : Nat → Option Level) (r : Word) (rest : List Input),
    s.configured = true → s.state = .idle → s.inbox = sessionTicks quiet r ++ rest → frameValid r = false →
    ∃ t, exec i s = .next t ∧
      core.run 53 t = .next
        { sessionEnd (encodeOpcode i) r
            [.log (.frameError (encodeOpcode i) r), .emit (.onFrameError (encodeOpcode i) r)] rest s with
          totalError := if 100 < s.totalReceived + 1 then s.totalError + 1 else s.totalError }

/-- 41 R157: at any point of a session up to the interval between ticks 52 and 53, a second request is rejected and
leaves the running session as it was, its opcode by the spec's own D8 (assumption log 9); after tick 53 it is
accepted. -/
def Obligations.RejectionLeavesTheRunningSessionIntact : Prop :=
  ∀ (i : Instr) (s : State) (opcode : Byte) (wires : List (Option Level)) (rest : List Input),
    s.configured = true → s.state = .idle → wires.length = 53 →
    s.inbox = .start opcode :: (wires.map .tick ++ rest) →
    (∀ k ≤ 52, ∃ t u, core.run (1 + k) s = .next t ∧ exec i t = .next u ∧
      u.state = t.state ∧ u.tickCountdown = t.tickCountdown ∧ u.shiftRegister = t.shiftRegister ∧
      u.requestOpcode = t.requestOpcode ∧ u.lineMode = t.lineMode ∧ u.lineLatch = t.lineLatch ∧
      u.tickArmed = t.tickArmed ∧ u.inbox = t.inbox ∧ u.trace.getLast? = some (.result .busy)) ∧
    (∃ t u, core.run 54 s = .next t ∧ exec i t = .next u ∧ u.state = .start ∧
      u.trace.getLast? = some (.result .accepted))

/-- 60 R263: a start and a tick at the same moment. In Start, Request, Turnaround, Response, and in Stop with two ticks
left, both orders give the same state up to the order of the observed effects; at the 53rd tick the order decides
whether the start is accepted. That both orders are runs is the spec's own D18. -/
def Obligations.StartAndTickCommuteExceptAtTheLastTick : Prop :=
  ∀ (s s₁ s₂ : State) (opcode : Byte) (w : Option Level) (rest : List Input), s.configured = true →
    s₁ = { s with inbox := .start opcode :: .tick w :: rest } →
    s₂ = { s with inbox := .tick w :: .start opcode :: rest } →
    ((s.state = .start ∨ s.state = .request ∨ s.state = .turnaround ∨ s.state = .response ∨
        (s.state = .stop ∧ s.tickCountdown = 2)) →
      ∃ t₁ t₂, core.run 2 s₁ = .next t₁ ∧ core.run 2 s₂ = .next t₂ ∧
        { t₁ with trace := [] } = { t₂ with trace := [] } ∧ t₁.trace.Perm t₂.trace) ∧
    ((s.state = .stop ∧ s.tickCountdown = 1) →
      ∃ t₁ t₂, core.run 2 s₁ = .next t₁ ∧ core.run 2 s₂ = .next t₂ ∧ t₁.state = .idle ∧ t₂.state = .start ∧
        t₁.totalBusy = s.totalBusy + 1 ∧ t₂.totalBusy = s.totalBusy)

/-! ### Invariants and whole-machine rules -/

/-- 41 R155, 30 R85, R86, 41 R146: every step, whatever call it performs, keeps the pairs of state and countdown a
session takes and the contents of the shift register. -/
def Obligations.EveryStepKeepsTheSessionInvariant : Prop :=
  ∀ s t : State, SessionInv s → step s = .next t → SessionInv t

/-- 10 R32, R33: every step keeps `0xFF` out of the identification code and the version within the formula's range. -/
def Obligations.EveryStepKeepsTheDeviceInvariant : Prop :=
  ∀ s t : State, DeviceInv s → step s = .next t → DeviceInv t

/-- 41 R145, 44 R223, 41 R155: while the environment keeps its contract, every step keeps the mode of the line, the
arming of the tick source and the absence of protocol faults. The contract on the line and the tick source is the spec's
own D16 and D17 (assumption log 3). -/
def Obligations.StepsUnderContractKeepTheBoundaryInvariant : Prop :=
  ∀ s t : State, BoundaryInv s → ContractKept s → step s = .next t → BoundaryInv t

/-- 44 R221: while the host initializes for the target bit rate of 9600, every step keeps that a configured CORE holds a
reload value derived for that rate from some clock rate and prescaler; so it is the value an accepted start arms the
tick source with (`configured` and `init` are the spec's own D19, widths and causes D20, assumption logs 9 and 12; no
step sets `configured` but a successful `init`, see assumption log 13). -/
def Obligations.EveryStepKeepsTheReloadOfTheBitRate : Prop :=
  (∀ s t : State, TimingInv s → BitRateKept s → step s = .next t → TimingInv t) ∧
  (∀ (i : Instr) (s : State), TimingInv s → s.configured = true → s.state = .idle →
    ∃ (t : State) (ref pre : Word), exec i s = .next t ∧ configurationFails ref pre 9600 = false ∧
      t.trace = s.trace ++
        [.lineDrive .high, .lineDrive .low, .tickArm (deriveReload ref pre 9600), .result .accepted])

/-- The machine right after reset meets the four invariants. -/
def Obligations.FreshMachineMeetsTheInvariants : Prop :=
  SessionInv core.reset ∧ DeviceInv core.reset ∧ BoundaryInv core.reset ∧ TimingInv core.reset

/-- 41 R142: nothing but an accepted start leaves Idle; that it needs `configured` is the spec's own D19 (assumption
log 9). -/
def Obligations.OnlyAnAcceptedStartLeavesIdle : Prop :=
  ∀ s t : State, s.state = .idle → step s = .next t → t.state ≠ .idle →
    s.configured = true ∧ t.state = .start ∧ ∃ opcode, nextCall s = some (.start opcode)

/-- 10 R29, R30: nothing but the reset event clears `backlight_ready` or `protocol_fault`, which is sticky by the spec's
own D5 (assumption log 11). -/
def Obligations.OnlyResetClearsTheStickyFlags : Prop :=
  ∀ s t : State, step s = .next t → nextCall s ≠ some .reset →
    (s.backlightReady = true → t.backlightReady = true) ∧ (s.protocolFault = true → t.protocolFault = true)

/-- 10 R41: who writes what. The Session registers change only at a start, a tick or reset; the Device State and the
reception counters only at the last Response tick or reset; the timing parameters only at `init` or reset; the busy
count and the opcode only at a start or reset; the protocol fault only at a tick or reset. (That reset changes the
registers it gives no value is the model's, assumption log 2; the busy count, `configured` and the protocol fault are
the spec's own D9, D19 and D5.) -/
def Obligations.StateIsWrittenOnlyByItsOwners : Prop :=
  ∀ s t : State, step s = .next t →
    ((t.state ≠ s.state ∨ t.tickCountdown ≠ s.tickCountdown ∨ t.shiftRegister ≠ s.shiftRegister ∨
        t.requestOpcode ≠ s.requestOpcode) →
      nextCall s = some .reset ∨ (∃ opcode, nextCall s = some (.start opcode)) ∨ ∃ w, nextCall s = some (.tick w)) ∧
    ((t.identificationCode ≠ s.identificationCode ∨ t.firmwareVersion ≠ s.firmwareVersion ∨
        t.backlightReady ≠ s.backlightReady ∨ t.totalReceived ≠ s.totalReceived ∨ t.totalError ≠ s.totalError) →
      nextCall s = some .reset ∨
        (s.state = .response ∧ s.tickCountdown = 1 ∧ ∃ w, nextCall s = some (.tick w))) ∧
    ((t.reloadValue ≠ s.reloadValue ∨ t.configured ≠ s.configured) →
      nextCall s = some .reset ∨ ∃ ref pre rate, nextCall s = some (.init ref pre rate)) ∧
    (t.totalBusy ≠ s.totalBusy → nextCall s = some .reset ∨ ∃ opcode, nextCall s = some (.start opcode)) ∧
    (t.requestOpcode ≠ s.requestOpcode → nextCall s = some .reset ∨ ∃ opcode, nextCall s = some (.start opcode)) ∧
    (t.protocolFault ≠ s.protocolFault → nextCall s = some .reset ∨ ∃ w, nextCall s = some (.tick w))

/-! ### The blocking variant -/

/-- 45 R239: a call makes at least one and at most three exchanges, each the exchange of 45 R236 for the opcode and the
levels presented; it accepts the first response that passes the check, and none only after three failures (three by the
spec's own D25, assumption log 16). -/
def Obligations.BlockingCallStopsAtTheFirstGoodResponse : Prop :=
  ∀ (opcode : Byte) (wire : Nat → Nat → Level), ∃ n, 1 ≤ n ∧ n ≤ 3 ∧
    (blockingCall opcode wire).exchanges = (List.range n).map (fun k => blockingExchange opcode (wire k)) ∧
    (∀ k, k + 1 < n → blockingAccepts (blockingReceive (wire k)) = false) ∧
    (blockingAccepts (blockingReceive (wire (n - 1))) = true ∧
        (blockingCall opcode wire).accepted = some (blockingReceive (wire (n - 1))) ∨
      n = 3 ∧ blockingAccepts (blockingReceive (wire 2)) = false ∧ (blockingCall opcode wire).accepted = none)

/-- 45 R236, R241: the variant sends the engine's frames and accepts exactly the responses the dispatcher accepts. -/
def Obligations.BlockingVariantSharesFramesAndVerdicts : Prop :=
  (∀ i : Instr, blockingFrame (encodeOpcode i) = encodeFrame i) ∧
  (∀ raw : Word, blockingAccepts raw = frameValid raw)

/-- 45 R236, R241, 30 R81 to R83: an exchange of the variant, with any levels on the wire, sends the engine's frame; the
first sample is the top bit of what it receives; its line calls are the part of the engine's canonical trace between the
start of the session and the return of the line; and where the response is valid, a call decodes it as the engine does
(polarity and order of the line calls by the spec's own D2 and D7, assumption logs 8 and 11). -/
def Obligations.BlockingExchangeIsTheEnginesOnTheLine : Prop :=
  ∀ (i : Instr) (wire : Nat → Nat → Level) (reload : Word) (dispatcher : List Effect) (x : BlockingExchange),
    x = blockingExchange (encodeOpcode i) (wire 0) →
    x.sent = encodeFrame i ∧
    (∀ j < 32, x.received.getLsbD (31 - j) = bitOfLevel (wire 0 j)) ∧
    canonicalTrace (encodeOpcode i) reload x.received dispatcher =
      [.lineDrive .high, .lineDrive .low, .tickArm reload, .result .accepted] ++ x.calls
        ++ ([.lineDrive .high, .lineBecomeOutput] ++ dispatcher ++ [.tickDisarm]) ∧
    (frameValid x.received = true →
      blockingDecoded (encodeOpcode i) wire = some (decodeResponse (encodeOpcode i) x.received))
end

