-- ==== Sys2Proof/Laws/State.lean ====
section
/-!
SUPPORT. One lemma per field per update: what each named operation leaves in each field, true by rfl.
-/

namespace Sys2Proof.Machine

variable (s : State)

@[simp] theorem observe_state (e : Effect) : (observe e s).state = s.state := rfl
@[simp] theorem observe_tickCountdown (e : Effect) : (observe e s).tickCountdown = s.tickCountdown := rfl
@[simp] theorem observe_shiftRegister (e : Effect) : (observe e s).shiftRegister = s.shiftRegister := rfl
@[simp] theorem observe_requestOpcode (e : Effect) : (observe e s).requestOpcode = s.requestOpcode := rfl
@[simp] theorem observe_reloadValue (e : Effect) : (observe e s).reloadValue = s.reloadValue := rfl
@[simp] theorem observe_configured (e : Effect) : (observe e s).configured = s.configured := rfl
@[simp] theorem observe_identificationCode (e : Effect) :
    (observe e s).identificationCode = s.identificationCode := rfl
@[simp] theorem observe_firmwareVersion (e : Effect) : (observe e s).firmwareVersion = s.firmwareVersion := rfl
@[simp] theorem observe_backlightReady (e : Effect) : (observe e s).backlightReady = s.backlightReady := rfl
@[simp] theorem observe_totalReceived (e : Effect) : (observe e s).totalReceived = s.totalReceived := rfl
@[simp] theorem observe_totalError (e : Effect) : (observe e s).totalError = s.totalError := rfl
@[simp] theorem observe_totalBusy (e : Effect) : (observe e s).totalBusy = s.totalBusy := rfl
@[simp] theorem observe_protocolFault (e : Effect) : (observe e s).protocolFault = s.protocolFault := rfl
@[simp] theorem observe_lineMode (e : Effect) : (observe e s).lineMode = s.lineMode := rfl
@[simp] theorem observe_lineLatch (e : Effect) : (observe e s).lineLatch = s.lineLatch := rfl
@[simp] theorem observe_tickArmed (e : Effect) : (observe e s).tickArmed = s.tickArmed := rfl
@[simp] theorem observe_trace (e : Effect) : (observe e s).trace = s.trace ++ [e] := rfl
@[simp] theorem observe_inbox (e : Effect) : (observe e s).inbox = s.inbox := rfl
@[simp] theorem observe_draws (e : Effect) : (observe e s).draws = s.draws := rfl

@[simp] theorem lineDrive_state (l : Level) : (lineDrive l s).state = s.state := rfl
@[simp] theorem lineDrive_tickCountdown (l : Level) : (lineDrive l s).tickCountdown = s.tickCountdown := rfl
@[simp] theorem lineDrive_shiftRegister (l : Level) : (lineDrive l s).shiftRegister = s.shiftRegister := rfl
@[simp] theorem lineDrive_requestOpcode (l : Level) : (lineDrive l s).requestOpcode = s.requestOpcode := rfl
@[simp] theorem lineDrive_reloadValue (l : Level) : (lineDrive l s).reloadValue = s.reloadValue := rfl
@[simp] theorem lineDrive_configured (l : Level) : (lineDrive l s).configured = s.configured := rfl
@[simp] theorem lineDrive_identificationCode (l : Level) :
    (lineDrive l s).identificationCode = s.identificationCode := rfl
@[simp] theorem lineDrive_firmwareVersion (l : Level) : (lineDrive l s).firmwareVersion = s.firmwareVersion := rfl
@[simp] theorem lineDrive_backlightReady (l : Level) : (lineDrive l s).backlightReady = s.backlightReady := rfl
@[simp] theorem lineDrive_totalReceived (l : Level) : (lineDrive l s).totalReceived = s.totalReceived := rfl
@[simp] theorem lineDrive_totalError (l : Level) : (lineDrive l s).totalError = s.totalError := rfl
@[simp] theorem lineDrive_totalBusy (l : Level) : (lineDrive l s).totalBusy = s.totalBusy := rfl
@[simp] theorem lineDrive_protocolFault (l : Level) : (lineDrive l s).protocolFault = s.protocolFault := rfl
@[simp] theorem lineDrive_lineMode (l : Level) : (lineDrive l s).lineMode = s.lineMode := rfl
@[simp] theorem lineDrive_lineLatch (l : Level) : (lineDrive l s).lineLatch = l := rfl
@[simp] theorem lineDrive_tickArmed (l : Level) : (lineDrive l s).tickArmed = s.tickArmed := rfl
@[simp] theorem lineDrive_trace (l : Level) : (lineDrive l s).trace = s.trace ++ [.lineDrive l] := rfl
@[simp] theorem lineDrive_inbox (l : Level) : (lineDrive l s).inbox = s.inbox := rfl
@[simp] theorem lineDrive_draws (l : Level) : (lineDrive l s).draws = s.draws := rfl

@[simp] theorem lineBecomeInput_state : (lineBecomeInput s).state = s.state := rfl
@[simp] theorem lineBecomeInput_tickCountdown : (lineBecomeInput s).tickCountdown = s.tickCountdown := rfl
@[simp] theorem lineBecomeInput_shiftRegister : (lineBecomeInput s).shiftRegister = s.shiftRegister := rfl
@[simp] theorem lineBecomeInput_requestOpcode : (lineBecomeInput s).requestOpcode = s.requestOpcode := rfl
@[simp] theorem lineBecomeInput_reloadValue : (lineBecomeInput s).reloadValue = s.reloadValue := rfl
@[simp] theorem lineBecomeInput_configured : (lineBecomeInput s).configured = s.configured := rfl
@[simp] theorem lineBecomeInput_identificationCode :
    (lineBecomeInput s).identificationCode = s.identificationCode := rfl
@[simp] theorem lineBecomeInput_firmwareVersion : (lineBecomeInput s).firmwareVersion = s.firmwareVersion := rfl
@[simp] theorem lineBecomeInput_backlightReady : (lineBecomeInput s).backlightReady = s.backlightReady := rfl
@[simp] theorem lineBecomeInput_totalReceived : (lineBecomeInput s).totalReceived = s.totalReceived := rfl
@[simp] theorem lineBecomeInput_totalError : (lineBecomeInput s).totalError = s.totalError := rfl
@[simp] theorem lineBecomeInput_totalBusy : (lineBecomeInput s).totalBusy = s.totalBusy := rfl
@[simp] theorem lineBecomeInput_protocolFault : (lineBecomeInput s).protocolFault = s.protocolFault := rfl
@[simp] theorem lineBecomeInput_lineMode : (lineBecomeInput s).lineMode = .input := rfl
@[simp] theorem lineBecomeInput_lineLatch : (lineBecomeInput s).lineLatch = s.lineLatch := rfl
@[simp] theorem lineBecomeInput_tickArmed : (lineBecomeInput s).tickArmed = s.tickArmed := rfl
@[simp] theorem lineBecomeInput_trace : (lineBecomeInput s).trace = s.trace ++ [.lineBecomeInput] := rfl
@[simp] theorem lineBecomeInput_inbox : (lineBecomeInput s).inbox = s.inbox := rfl
@[simp] theorem lineBecomeInput_draws : (lineBecomeInput s).draws = s.draws := rfl

@[simp] theorem lineBecomeOutput_state : (lineBecomeOutput s).state = s.state := rfl
@[simp] theorem lineBecomeOutput_tickCountdown : (lineBecomeOutput s).tickCountdown = s.tickCountdown := rfl
@[simp] theorem lineBecomeOutput_shiftRegister : (lineBecomeOutput s).shiftRegister = s.shiftRegister := rfl
@[simp] theorem lineBecomeOutput_requestOpcode : (lineBecomeOutput s).requestOpcode = s.requestOpcode := rfl
@[simp] theorem lineBecomeOutput_reloadValue : (lineBecomeOutput s).reloadValue = s.reloadValue := rfl
@[simp] theorem lineBecomeOutput_configured : (lineBecomeOutput s).configured = s.configured := rfl
@[simp] theorem lineBecomeOutput_identificationCode :
    (lineBecomeOutput s).identificationCode = s.identificationCode := rfl
@[simp] theorem lineBecomeOutput_firmwareVersion : (lineBecomeOutput s).firmwareVersion = s.firmwareVersion := rfl
@[simp] theorem lineBecomeOutput_backlightReady : (lineBecomeOutput s).backlightReady = s.backlightReady := rfl
@[simp] theorem lineBecomeOutput_totalReceived : (lineBecomeOutput s).totalReceived = s.totalReceived := rfl
@[simp] theorem lineBecomeOutput_totalError : (lineBecomeOutput s).totalError = s.totalError := rfl
@[simp] theorem lineBecomeOutput_totalBusy : (lineBecomeOutput s).totalBusy = s.totalBusy := rfl
@[simp] theorem lineBecomeOutput_protocolFault : (lineBecomeOutput s).protocolFault = s.protocolFault := rfl
@[simp] theorem lineBecomeOutput_lineMode : (lineBecomeOutput s).lineMode = .output := rfl
@[simp] theorem lineBecomeOutput_lineLatch : (lineBecomeOutput s).lineLatch = s.lineLatch := rfl
@[simp] theorem lineBecomeOutput_tickArmed : (lineBecomeOutput s).tickArmed = s.tickArmed := rfl
@[simp] theorem lineBecomeOutput_trace : (lineBecomeOutput s).trace = s.trace ++ [.lineBecomeOutput] := rfl
@[simp] theorem lineBecomeOutput_inbox : (lineBecomeOutput s).inbox = s.inbox := rfl
@[simp] theorem lineBecomeOutput_draws : (lineBecomeOutput s).draws = s.draws := rfl

@[simp] theorem lineRead_state (l : Level) : (lineRead l s).state = s.state := rfl
@[simp] theorem lineRead_tickCountdown (l : Level) : (lineRead l s).tickCountdown = s.tickCountdown := rfl
@[simp] theorem lineRead_shiftRegister (l : Level) : (lineRead l s).shiftRegister = s.shiftRegister := rfl
@[simp] theorem lineRead_requestOpcode (l : Level) : (lineRead l s).requestOpcode = s.requestOpcode := rfl
@[simp] theorem lineRead_reloadValue (l : Level) : (lineRead l s).reloadValue = s.reloadValue := rfl
@[simp] theorem lineRead_configured (l : Level) : (lineRead l s).configured = s.configured := rfl
@[simp] theorem lineRead_identificationCode (l : Level) :
    (lineRead l s).identificationCode = s.identificationCode := rfl
@[simp] theorem lineRead_firmwareVersion (l : Level) : (lineRead l s).firmwareVersion = s.firmwareVersion := rfl
@[simp] theorem lineRead_backlightReady (l : Level) : (lineRead l s).backlightReady = s.backlightReady := rfl
@[simp] theorem lineRead_totalReceived (l : Level) : (lineRead l s).totalReceived = s.totalReceived := rfl
@[simp] theorem lineRead_totalError (l : Level) : (lineRead l s).totalError = s.totalError := rfl
@[simp] theorem lineRead_totalBusy (l : Level) : (lineRead l s).totalBusy = s.totalBusy := rfl
@[simp] theorem lineRead_protocolFault (l : Level) : (lineRead l s).protocolFault = s.protocolFault := rfl
@[simp] theorem lineRead_lineMode (l : Level) : (lineRead l s).lineMode = s.lineMode := rfl
@[simp] theorem lineRead_lineLatch (l : Level) : (lineRead l s).lineLatch = s.lineLatch := rfl
@[simp] theorem lineRead_tickArmed (l : Level) : (lineRead l s).tickArmed = s.tickArmed := rfl
@[simp] theorem lineRead_trace (l : Level) : (lineRead l s).trace = s.trace ++ [.lineRead l] := rfl
@[simp] theorem lineRead_inbox (l : Level) : (lineRead l s).inbox = s.inbox := rfl
@[simp] theorem lineRead_draws (l : Level) : (lineRead l s).draws = s.draws + 1 := rfl

@[simp] theorem tickArm_state (r : Word) : (tickArm r s).state = s.state := rfl
@[simp] theorem tickArm_tickCountdown (r : Word) : (tickArm r s).tickCountdown = s.tickCountdown := rfl
@[simp] theorem tickArm_shiftRegister (r : Word) : (tickArm r s).shiftRegister = s.shiftRegister := rfl
@[simp] theorem tickArm_requestOpcode (r : Word) : (tickArm r s).requestOpcode = s.requestOpcode := rfl
@[simp] theorem tickArm_reloadValue (r : Word) : (tickArm r s).reloadValue = s.reloadValue := rfl
@[simp] theorem tickArm_configured (r : Word) : (tickArm r s).configured = s.configured := rfl
@[simp] theorem tickArm_identificationCode (r : Word) : (tickArm r s).identificationCode = s.identificationCode := rfl
@[simp] theorem tickArm_firmwareVersion (r : Word) : (tickArm r s).firmwareVersion = s.firmwareVersion := rfl
@[simp] theorem tickArm_backlightReady (r : Word) : (tickArm r s).backlightReady = s.backlightReady := rfl
@[simp] theorem tickArm_totalReceived (r : Word) : (tickArm r s).totalReceived = s.totalReceived := rfl
@[simp] theorem tickArm_totalError (r : Word) : (tickArm r s).totalError = s.totalError := rfl
@[simp] theorem tickArm_totalBusy (r : Word) : (tickArm r s).totalBusy = s.totalBusy := rfl
@[simp] theorem tickArm_protocolFault (r : Word) : (tickArm r s).protocolFault = s.protocolFault := rfl
@[simp] theorem tickArm_lineMode (r : Word) : (tickArm r s).lineMode = s.lineMode := rfl
@[simp] theorem tickArm_lineLatch (r : Word) : (tickArm r s).lineLatch = s.lineLatch := rfl
@[simp] theorem tickArm_tickArmed (r : Word) : (tickArm r s).tickArmed = true := rfl
@[simp] theorem tickArm_trace (r : Word) : (tickArm r s).trace = s.trace ++ [.tickArm r] := rfl
@[simp] theorem tickArm_inbox (r : Word) : (tickArm r s).inbox = s.inbox := rfl
@[simp] theorem tickArm_draws (r : Word) : (tickArm r s).draws = s.draws := rfl

@[simp] theorem tickDisarm_state : (tickDisarm s).state = s.state := rfl
@[simp] theorem tickDisarm_tickCountdown : (tickDisarm s).tickCountdown = s.tickCountdown := rfl
@[simp] theorem tickDisarm_shiftRegister : (tickDisarm s).shiftRegister = s.shiftRegister := rfl
@[simp] theorem tickDisarm_requestOpcode : (tickDisarm s).requestOpcode = s.requestOpcode := rfl
@[simp] theorem tickDisarm_reloadValue : (tickDisarm s).reloadValue = s.reloadValue := rfl
@[simp] theorem tickDisarm_configured : (tickDisarm s).configured = s.configured := rfl
@[simp] theorem tickDisarm_identificationCode : (tickDisarm s).identificationCode = s.identificationCode := rfl
@[simp] theorem tickDisarm_firmwareVersion : (tickDisarm s).firmwareVersion = s.firmwareVersion := rfl
@[simp] theorem tickDisarm_backlightReady : (tickDisarm s).backlightReady = s.backlightReady := rfl
@[simp] theorem tickDisarm_totalReceived : (tickDisarm s).totalReceived = s.totalReceived := rfl
@[simp] theorem tickDisarm_totalError : (tickDisarm s).totalError = s.totalError := rfl
@[simp] theorem tickDisarm_totalBusy : (tickDisarm s).totalBusy = s.totalBusy := rfl
@[simp] theorem tickDisarm_protocolFault : (tickDisarm s).protocolFault = s.protocolFault := rfl
@[simp] theorem tickDisarm_lineMode : (tickDisarm s).lineMode = s.lineMode := rfl
@[simp] theorem tickDisarm_lineLatch : (tickDisarm s).lineLatch = s.lineLatch := rfl
@[simp] theorem tickDisarm_tickArmed : (tickDisarm s).tickArmed = false := rfl
@[simp] theorem tickDisarm_trace : (tickDisarm s).trace = s.trace ++ [.tickDisarm] := rfl
@[simp] theorem tickDisarm_inbox : (tickDisarm s).inbox = s.inbox := rfl
@[simp] theorem tickDisarm_draws : (tickDisarm s).draws = s.draws := rfl

@[simp] theorem diagLog_state (m : Diag) : (diagLog m s).state = s.state := rfl
@[simp] theorem diagLog_tickCountdown (m : Diag) : (diagLog m s).tickCountdown = s.tickCountdown := rfl
@[simp] theorem diagLog_shiftRegister (m : Diag) : (diagLog m s).shiftRegister = s.shiftRegister := rfl
@[simp] theorem diagLog_requestOpcode (m : Diag) : (diagLog m s).requestOpcode = s.requestOpcode := rfl
@[simp] theorem diagLog_reloadValue (m : Diag) : (diagLog m s).reloadValue = s.reloadValue := rfl
@[simp] theorem diagLog_configured (m : Diag) : (diagLog m s).configured = s.configured := rfl
@[simp] theorem diagLog_identificationCode (m : Diag) : (diagLog m s).identificationCode = s.identificationCode := rfl
@[simp] theorem diagLog_firmwareVersion (m : Diag) : (diagLog m s).firmwareVersion = s.firmwareVersion := rfl
@[simp] theorem diagLog_backlightReady (m : Diag) : (diagLog m s).backlightReady = s.backlightReady := rfl
@[simp] theorem diagLog_totalReceived (m : Diag) : (diagLog m s).totalReceived = s.totalReceived := rfl
@[simp] theorem diagLog_totalError (m : Diag) : (diagLog m s).totalError = s.totalError := rfl
@[simp] theorem diagLog_totalBusy (m : Diag) : (diagLog m s).totalBusy = s.totalBusy := rfl
@[simp] theorem diagLog_protocolFault (m : Diag) : (diagLog m s).protocolFault = s.protocolFault := rfl
@[simp] theorem diagLog_lineMode (m : Diag) : (diagLog m s).lineMode = s.lineMode := rfl
@[simp] theorem diagLog_lineLatch (m : Diag) : (diagLog m s).lineLatch = s.lineLatch := rfl
@[simp] theorem diagLog_tickArmed (m : Diag) : (diagLog m s).tickArmed = s.tickArmed := rfl
@[simp] theorem diagLog_trace (m : Diag) : (diagLog m s).trace = s.trace ++ [.log m] := rfl
@[simp] theorem diagLog_inbox (m : Diag) : (diagLog m s).inbox = s.inbox := rfl
@[simp] theorem diagLog_draws (m : Diag) : (diagLog m s).draws = s.draws := rfl

@[simp] theorem emit_state (e : Event) : (emit e s).state = s.state := rfl
@[simp] theorem emit_tickCountdown (e : Event) : (emit e s).tickCountdown = s.tickCountdown := rfl
@[simp] theorem emit_shiftRegister (e : Event) : (emit e s).shiftRegister = s.shiftRegister := rfl
@[simp] theorem emit_requestOpcode (e : Event) : (emit e s).requestOpcode = s.requestOpcode := rfl
@[simp] theorem emit_reloadValue (e : Event) : (emit e s).reloadValue = s.reloadValue := rfl
@[simp] theorem emit_configured (e : Event) : (emit e s).configured = s.configured := rfl
@[simp] theorem emit_identificationCode (e : Event) : (emit e s).identificationCode = s.identificationCode := rfl
@[simp] theorem emit_firmwareVersion (e : Event) : (emit e s).firmwareVersion = s.firmwareVersion := rfl
@[simp] theorem emit_backlightReady (e : Event) : (emit e s).backlightReady = s.backlightReady := rfl
@[simp] theorem emit_totalReceived (e : Event) : (emit e s).totalReceived = s.totalReceived := rfl
@[simp] theorem emit_totalError (e : Event) : (emit e s).totalError = s.totalError := rfl
@[simp] theorem emit_totalBusy (e : Event) : (emit e s).totalBusy = s.totalBusy := rfl
@[simp] theorem emit_protocolFault (e : Event) : (emit e s).protocolFault = s.protocolFault := rfl
@[simp] theorem emit_lineMode (e : Event) : (emit e s).lineMode = s.lineMode := rfl
@[simp] theorem emit_lineLatch (e : Event) : (emit e s).lineLatch = s.lineLatch := rfl
@[simp] theorem emit_tickArmed (e : Event) : (emit e s).tickArmed = s.tickArmed := rfl
@[simp] theorem emit_trace (e : Event) : (emit e s).trace = s.trace ++ [.emit e] := rfl
@[simp] theorem emit_inbox (e : Event) : (emit e s).inbox = s.inbox := rfl
@[simp] theorem emit_draws (e : Event) : (emit e s).draws = s.draws := rfl

@[simp] theorem answer_state (r : StartResult) : (answer r s).state = s.state := rfl
@[simp] theorem answer_tickCountdown (r : StartResult) : (answer r s).tickCountdown = s.tickCountdown := rfl
@[simp] theorem answer_shiftRegister (r : StartResult) : (answer r s).shiftRegister = s.shiftRegister := rfl
@[simp] theorem answer_requestOpcode (r : StartResult) : (answer r s).requestOpcode = s.requestOpcode := rfl
@[simp] theorem answer_reloadValue (r : StartResult) : (answer r s).reloadValue = s.reloadValue := rfl
@[simp] theorem answer_configured (r : StartResult) : (answer r s).configured = s.configured := rfl
@[simp] theorem answer_identificationCode (r : StartResult) :
    (answer r s).identificationCode = s.identificationCode := rfl
@[simp] theorem answer_firmwareVersion (r : StartResult) : (answer r s).firmwareVersion = s.firmwareVersion := rfl
@[simp] theorem answer_backlightReady (r : StartResult) : (answer r s).backlightReady = s.backlightReady := rfl
@[simp] theorem answer_totalReceived (r : StartResult) : (answer r s).totalReceived = s.totalReceived := rfl
@[simp] theorem answer_totalError (r : StartResult) : (answer r s).totalError = s.totalError := rfl
@[simp] theorem answer_totalBusy (r : StartResult) : (answer r s).totalBusy = s.totalBusy := rfl
@[simp] theorem answer_protocolFault (r : StartResult) : (answer r s).protocolFault = s.protocolFault := rfl
@[simp] theorem answer_lineMode (r : StartResult) : (answer r s).lineMode = s.lineMode := rfl
@[simp] theorem answer_lineLatch (r : StartResult) : (answer r s).lineLatch = s.lineLatch := rfl
@[simp] theorem answer_tickArmed (r : StartResult) : (answer r s).tickArmed = s.tickArmed := rfl
@[simp] theorem answer_trace (r : StartResult) : (answer r s).trace = s.trace ++ [.result r] := rfl
@[simp] theorem answer_inbox (r : StartResult) : (answer r s).inbox = s.inbox := rfl
@[simp] theorem answer_draws (r : StartResult) : (answer r s).draws = s.draws := rfl

@[simp] theorem countError_state : (countError s).state = s.state := rfl
@[simp] theorem countError_tickCountdown : (countError s).tickCountdown = s.tickCountdown := rfl
@[simp] theorem countError_shiftRegister : (countError s).shiftRegister = s.shiftRegister := rfl
@[simp] theorem countError_requestOpcode : (countError s).requestOpcode = s.requestOpcode := rfl
@[simp] theorem countError_reloadValue : (countError s).reloadValue = s.reloadValue := rfl
@[simp] theorem countError_configured : (countError s).configured = s.configured := rfl
@[simp] theorem countError_identificationCode : (countError s).identificationCode = s.identificationCode := rfl
@[simp] theorem countError_firmwareVersion : (countError s).firmwareVersion = s.firmwareVersion := rfl
@[simp] theorem countError_backlightReady : (countError s).backlightReady = s.backlightReady := rfl
@[simp] theorem countError_totalReceived : (countError s).totalReceived = s.totalReceived := rfl
@[simp] theorem countError_totalError :
    (countError s).totalError = if pastWarmup s.totalReceived then s.totalError + 1 else s.totalError := rfl
@[simp] theorem countError_totalBusy : (countError s).totalBusy = s.totalBusy := rfl
@[simp] theorem countError_protocolFault : (countError s).protocolFault = s.protocolFault := rfl
@[simp] theorem countError_lineMode : (countError s).lineMode = s.lineMode := rfl
@[simp] theorem countError_lineLatch : (countError s).lineLatch = s.lineLatch := rfl
@[simp] theorem countError_tickArmed : (countError s).tickArmed = s.tickArmed := rfl
@[simp] theorem countError_trace : (countError s).trace = s.trace := rfl
@[simp] theorem countError_inbox : (countError s).inbox = s.inbox := rfl
@[simp] theorem countError_draws : (countError s).draws = s.draws := rfl

@[simp] theorem countReception_state : (countReception s).state = s.state := rfl
@[simp] theorem countReception_tickCountdown : (countReception s).tickCountdown = s.tickCountdown := rfl
@[simp] theorem countReception_shiftRegister : (countReception s).shiftRegister = s.shiftRegister := rfl
@[simp] theorem countReception_requestOpcode : (countReception s).requestOpcode = s.requestOpcode := rfl
@[simp] theorem countReception_reloadValue : (countReception s).reloadValue = s.reloadValue := rfl
@[simp] theorem countReception_configured : (countReception s).configured = s.configured := rfl
@[simp] theorem countReception_identificationCode :
    (countReception s).identificationCode = s.identificationCode := rfl
@[simp] theorem countReception_firmwareVersion : (countReception s).firmwareVersion = s.firmwareVersion := rfl
@[simp] theorem countReception_backlightReady : (countReception s).backlightReady = s.backlightReady := rfl
@[simp] theorem countReception_totalReceived : (countReception s).totalReceived = s.totalReceived + 1 := rfl
@[simp] theorem countReception_totalError : (countReception s).totalError = s.totalError := rfl
@[simp] theorem countReception_totalBusy : (countReception s).totalBusy = s.totalBusy := rfl
@[simp] theorem countReception_protocolFault : (countReception s).protocolFault = s.protocolFault := rfl
@[simp] theorem countReception_lineMode : (countReception s).lineMode = s.lineMode := rfl
@[simp] theorem countReception_lineLatch : (countReception s).lineLatch = s.lineLatch := rfl
@[simp] theorem countReception_tickArmed : (countReception s).tickArmed = s.tickArmed := rfl
@[simp] theorem countReception_trace : (countReception s).trace = s.trace := rfl
@[simp] theorem countReception_inbox : (countReception s).inbox = s.inbox := rfl
@[simp] theorem countReception_draws : (countReception s).draws = s.draws := rfl

@[simp] theorem decrementCountdown_state : (decrementCountdown s).state = s.state := rfl
@[simp] theorem decrementCountdown_tickCountdown : (decrementCountdown s).tickCountdown = s.tickCountdown - 1 := rfl
@[simp] theorem decrementCountdown_shiftRegister : (decrementCountdown s).shiftRegister = s.shiftRegister := rfl
@[simp] theorem decrementCountdown_requestOpcode : (decrementCountdown s).requestOpcode = s.requestOpcode := rfl
@[simp] theorem decrementCountdown_reloadValue : (decrementCountdown s).reloadValue = s.reloadValue := rfl
@[simp] theorem decrementCountdown_configured : (decrementCountdown s).configured = s.configured := rfl
@[simp] theorem decrementCountdown_identificationCode :
    (decrementCountdown s).identificationCode = s.identificationCode := rfl
@[simp] theorem decrementCountdown_firmwareVersion : (decrementCountdown s).firmwareVersion = s.firmwareVersion := rfl
@[simp] theorem decrementCountdown_backlightReady : (decrementCountdown s).backlightReady = s.backlightReady := rfl
@[simp] theorem decrementCountdown_totalReceived : (decrementCountdown s).totalReceived = s.totalReceived := rfl
@[simp] theorem decrementCountdown_totalError : (decrementCountdown s).totalError = s.totalError := rfl
@[simp] theorem decrementCountdown_totalBusy : (decrementCountdown s).totalBusy = s.totalBusy := rfl
@[simp] theorem decrementCountdown_protocolFault : (decrementCountdown s).protocolFault = s.protocolFault := rfl
@[simp] theorem decrementCountdown_lineMode : (decrementCountdown s).lineMode = s.lineMode := rfl
@[simp] theorem decrementCountdown_lineLatch : (decrementCountdown s).lineLatch = s.lineLatch := rfl
@[simp] theorem decrementCountdown_tickArmed : (decrementCountdown s).tickArmed = s.tickArmed := rfl
@[simp] theorem decrementCountdown_trace : (decrementCountdown s).trace = s.trace := rfl
@[simp] theorem decrementCountdown_inbox : (decrementCountdown s).inbox = s.inbox := rfl
@[simp] theorem decrementCountdown_draws : (decrementCountdown s).draws = s.draws := rfl

@[simp] theorem sendBit_state : (sendBit s).state = s.state := rfl
@[simp] theorem sendBit_tickCountdown : (sendBit s).tickCountdown = s.tickCountdown := rfl
@[simp] theorem sendBit_shiftRegister : (sendBit s).shiftRegister = shiftOut s.shiftRegister := rfl
@[simp] theorem sendBit_requestOpcode : (sendBit s).requestOpcode = s.requestOpcode := rfl
@[simp] theorem sendBit_reloadValue : (sendBit s).reloadValue = s.reloadValue := rfl
@[simp] theorem sendBit_configured : (sendBit s).configured = s.configured := rfl
@[simp] theorem sendBit_identificationCode : (sendBit s).identificationCode = s.identificationCode := rfl
@[simp] theorem sendBit_firmwareVersion : (sendBit s).firmwareVersion = s.firmwareVersion := rfl
@[simp] theorem sendBit_backlightReady : (sendBit s).backlightReady = s.backlightReady := rfl
@[simp] theorem sendBit_totalReceived : (sendBit s).totalReceived = s.totalReceived := rfl
@[simp] theorem sendBit_totalError : (sendBit s).totalError = s.totalError := rfl
@[simp] theorem sendBit_totalBusy : (sendBit s).totalBusy = s.totalBusy := rfl
@[simp] theorem sendBit_protocolFault : (sendBit s).protocolFault = s.protocolFault := rfl
@[simp] theorem sendBit_lineMode : (sendBit s).lineMode = s.lineMode := rfl
@[simp] theorem sendBit_lineLatch : (sendBit s).lineLatch = levelOfBit (s.shiftRegister.getLsbD 31) := rfl
@[simp] theorem sendBit_tickArmed : (sendBit s).tickArmed = s.tickArmed := rfl
@[simp] theorem sendBit_trace :
    (sendBit s).trace = s.trace ++ [.lineDrive (levelOfBit (s.shiftRegister.getLsbD 31))] := rfl
@[simp] theorem sendBit_inbox : (sendBit s).inbox = s.inbox := rfl
@[simp] theorem sendBit_draws : (sendBit s).draws = s.draws := rfl

@[simp] theorem receiveBit_state (w : Option Level) : (receiveBit w s).state = s.state := rfl
@[simp] theorem receiveBit_tickCountdown (w : Option Level) : (receiveBit w s).tickCountdown = s.tickCountdown := rfl
@[simp] theorem receiveBit_shiftRegister (w : Option Level) :
    (receiveBit w s).shiftRegister = shiftIn s.shiftRegister (bitOfLevel (sampledLevel w s)) := rfl
@[simp] theorem receiveBit_requestOpcode (w : Option Level) : (receiveBit w s).requestOpcode = s.requestOpcode := rfl
@[simp] theorem receiveBit_reloadValue (w : Option Level) : (receiveBit w s).reloadValue = s.reloadValue := rfl
@[simp] theorem receiveBit_configured (w : Option Level) : (receiveBit w s).configured = s.configured := rfl
@[simp] theorem receiveBit_identificationCode (w : Option Level) :
    (receiveBit w s).identificationCode = s.identificationCode := rfl
@[simp] theorem receiveBit_firmwareVersion (w : Option Level) :
    (receiveBit w s).firmwareVersion = s.firmwareVersion := rfl
@[simp] theorem receiveBit_backlightReady (w : Option Level) :
    (receiveBit w s).backlightReady = s.backlightReady := rfl
@[simp] theorem receiveBit_totalReceived (w : Option Level) : (receiveBit w s).totalReceived = s.totalReceived := rfl
@[simp] theorem receiveBit_totalError (w : Option Level) : (receiveBit w s).totalError = s.totalError := rfl
@[simp] theorem receiveBit_totalBusy (w : Option Level) : (receiveBit w s).totalBusy = s.totalBusy := rfl
@[simp] theorem receiveBit_protocolFault (w : Option Level) : (receiveBit w s).protocolFault = s.protocolFault := rfl
@[simp] theorem receiveBit_lineMode (w : Option Level) : (receiveBit w s).lineMode = s.lineMode := rfl
@[simp] theorem receiveBit_lineLatch (w : Option Level) : (receiveBit w s).lineLatch = s.lineLatch := rfl
@[simp] theorem receiveBit_tickArmed (w : Option Level) : (receiveBit w s).tickArmed = s.tickArmed := rfl
@[simp] theorem receiveBit_trace (w : Option Level) :
    (receiveBit w s).trace = s.trace ++ [.lineRead (sampledLevel w s)] := rfl
@[simp] theorem receiveBit_inbox (w : Option Level) : (receiveBit w s).inbox = s.inbox := rfl
@[simp] theorem receiveBit_draws (w : Option Level) : (receiveBit w s).draws = s.draws + 1 := rfl

end Sys2Proof.Machine
end

