-- ==== Sys2Proof/Laws/Ops.lean ====
section
/-!
SUPPORT. Each shared operation, once: what it answers as one flat update, and the cases it can take.
-/

namespace Sys2Proof.Machine

/-- The sampled bit is 1 exactly for `high`. -/
@[simp] theorem bitOfLevel_levelOfBit (b : Bool) : bitOfLevel (levelOfBit b) = b := by
  cases b <;> rfl

@[simp] theorem levelOfBit_bitOfLevel (l : Level) : levelOfBit (bitOfLevel l) = l := by
  cases l <;> rfl

theorem busy_eq_true {s : State} : busy s = true ↔ s.state ≠ .idle := by
  simp [busy]

theorem busy_eq_false {s : State} : busy s = false ↔ s.state = .idle := by
  simp [busy]

theorem countdownDone_eq_true {s : State} : countdownDone s = true ↔ s.tickCountdown = 0 := by
  simp [countdownDone]

/-- The warm-up covers the first 100 receptions (42 R175). -/
theorem pastWarmup_eq_true {n : Word} : pastWarmup n = true ↔ 100 < n :=
  decide_eq_true_iff

/-! ### Raising a condition -/

theorem raise_busyRejection (opcode : Byte) (s : State) :
    raiseCondition (.busyRejection opcode) s =
      { s with totalBusy := s.totalBusy + 1, trace := s.trace ++ [.log (.dropped opcode)] } := rfl

theorem raise_frameError (opcode : Byte) (raw : Word) (s : State) :
    raiseCondition (.frameError opcode raw) s =
      { s with
        totalError := if pastWarmup s.totalReceived then s.totalError + 1 else s.totalError
        trace := s.trace ++ [.log (.frameError opcode raw), .emit (.onFrameError opcode raw)] } := by
  simp [raiseCondition, emit, diagLog, observe, countError]

theorem raise_protocolFault (kind : ProtocolFaultKind) (s : State) :
    raiseCondition (.protocolFault kind) s =
      { s with
        state := .idle, protocolFault := true, tickArmed := false
        trace := s.trace ++ [.tickDisarm, .log (.protocolFault kind)] } := by
  simp [raiseCondition, diagLog, observe, tickDisarm]

theorem raise_configurationError (s : State) :
    raiseCondition .configurationError s =
      { s with configured := false, trace := s.trace ++ [.log .configError] } := rfl

/-! ### The dispatcher -/

/-- The dispatcher is a frame error or a delivery, after the reception is counted (42 R170). -/
theorem dispatch_invalid {raw : Word} (h : frameValid raw = false) (opcode : Byte) (s : State) :
    dispatch opcode raw s = raiseCondition (.frameError opcode raw) (countReception s) := by
  simp [dispatch, h]

theorem dispatch_valid {raw : Word} (h : frameValid raw = true) (opcode : Byte) (s : State) :
    dispatch opcode raw s = deliverDecoded (decodeResponse opcode raw) (countReception s) := by
  simp [dispatch, h]

/-- Everything the dispatcher can do: it counts the reception, may count an error, may write the Device State, and
appends to the trace. Nothing else changes (42 R184). -/
theorem dispatch_frame (opcode : Byte) (raw : Word) (s : State) :
    ∃ (e : Word) (code : Byte) (fw : BitVec 16) (b : Bool) (out : List Effect),
      dispatch opcode raw s =
        { s with
          totalReceived := s.totalReceived + 1, totalError := e, identificationCode := code, firmwareVersion := fw
          backlightReady := b, trace := s.trace ++ out } := by
  unfold dispatch
  split
  · cases decodeResponse opcode raw with
    | touch x y p => exact ⟨_, _, _, _, [.emit (.onTouch x y p)], rfl⟩
    | identification code fw => exact ⟨_, code, fw, _, [.emit (.onIdentification code fw)], rfl⟩
    | notAvailable => exact ⟨s.totalError, s.identificationCode, s.firmwareVersion, s.backlightReady, [], by
        simp [deliverDecoded, countReception]⟩
    | acknowledgment => exact ⟨_, _, _, true, [.emit .onBacklightReady], rfl⟩
  · rw [raise_frameError]
    exact ⟨_, _, _, _, _, rfl⟩

/-- What a decoding can be, with the conditions of each case (42 R177 to R180). -/
theorem decodeResponse_cases (opcode : Byte) (raw : Word) :
    (opcode = opTouch ∧
      decodeResponse opcode raw = .touch (touchX raw) (touchY raw) (pressed (touchX raw) (touchY raw))) ∨
    (opcode = opIdent ∧ byte3 raw ≠ identNotAvailable ∧
      decodeResponse opcode raw = .identification (byte3 raw) (firmwareOf raw)) ∨
    (opcode = opIdent ∧ byte3 raw = identNotAvailable ∧ decodeResponse opcode raw = .notAvailable) ∨
    (opcode ≠ opTouch ∧ opcode ≠ opIdent ∧ decodeResponse opcode raw = .acknowledgment) := by
  unfold decodeResponse codeAvailable
  by_cases ht : opcode = opTouch
  · exact .inl ⟨ht, by simp [ht]⟩
  · by_cases hi : opcode = opIdent
    · by_cases hc : byte3 raw = identNotAvailable
      · refine .inr (.inr (.inl ⟨hi, hc, ?_⟩))
        rw [if_neg ht, if_pos hi]
        simp [hc]
      · refine .inr (.inl ⟨hi, hc, ?_⟩)
        rw [if_neg ht, if_pos hi]
        simp [hc]
    · exact .inr (.inr (.inr ⟨ht, hi, by simp [ht, hi]⟩))

/-- What a dispatch puts out (42 R182). -/
def completionEffects (opcode : Byte) (raw : Word) : List Effect :=
  if frameValid raw then
    match decodeResponse opcode raw with
    | .touch x y p => [.emit (.onTouch x y p)]
    | .identification code fw => [.emit (.onIdentification code fw)]
    | .notAvailable => []
    | .acknowledgment => [.emit .onBacklightReady]
  else [.log (.frameError opcode raw), .emit (.onFrameError opcode raw)]

/-- The identification code after a dispatch. -/
def completedCode (opcode : Byte) (raw : Word) (old : Byte) : Byte :=
  if frameValid raw then
    match decodeResponse opcode raw with
    | .identification code _ => code
    | .touch _ _ _ | .notAvailable | .acknowledgment => old
  else old

/-- The firmware version after a dispatch. -/
def completedVersion (opcode : Byte) (raw : Word) (old : BitVec 16) : BitVec 16 :=
  if frameValid raw then
    match decodeResponse opcode raw with
    | .identification _ fw => fw
    | .touch _ _ _ | .notAvailable | .acknowledgment => old
  else old

/-- `backlight_ready` after a dispatch. -/
def completedReady (opcode : Byte) (raw : Word) (old : Bool) : Bool :=
  if frameValid raw then
    match decodeResponse opcode raw with
    | .acknowledgment => true
    | .touch _ _ _ | .identification _ _ | .notAvailable => old
  else old

/-- `total_error` after a dispatch. -/
def completedErrors (raw : Word) (received errors : Word) : Word :=
  if frameValid raw then errors else if pastWarmup (received + 1) then errors + 1 else errors

/-- The dispatcher as one flat update (42 R170, R182). -/
theorem dispatch_eq (opcode : Byte) (raw : Word) (s : State) :
    dispatch opcode raw s =
      { s with
        totalReceived := s.totalReceived + 1
        totalError := completedErrors raw s.totalReceived s.totalError
        identificationCode := completedCode opcode raw s.identificationCode
        firmwareVersion := completedVersion opcode raw s.firmwareVersion
        backlightReady := completedReady opcode raw s.backlightReady
        trace := s.trace ++ completionEffects opcode raw } := by
  unfold completedErrors completedCode completedVersion completedReady completionEffects
  cases hv : frameValid raw with
  | false =>
    rw [dispatch_invalid hv, raise_frameError]
    rfl
  | true =>
    rw [dispatch_valid hv]
    cases decodeResponse opcode raw <;> simp [deliverDecoded, emit, observe, countReception]

/-! ### start_session -/

theorem acceptSession_eq (opcode : Byte) (s : State) :
    acceptSession opcode s =
      { s with
        state := .start
        tickCountdown := 1
        shiftRegister := loadedShift opcode
        requestOpcode := opcode
        lineLatch := .low
        tickArmed := true
        trace := s.trace ++ [.lineDrive .high, .lineDrive .low, .tickArm s.reloadValue, .result .accepted] } := by
  simp [acceptSession, answer, observe, tickArm, lineDrive, startTicks]

theorem rejectBusy_eq (opcode : Byte) (s : State) :
    rejectBusy opcode s =
      { s with totalBusy := s.totalBusy + 1, trace := s.trace ++ [.log (.dropped opcode), .result .busy] } := by
  simp [rejectBusy, raise_busyRejection, answer, observe]

theorem rejectUnconfigured_eq (opcode : Byte) (s : State) :
    rejectUnconfigured opcode s = { s with trace := s.trace ++ [.log (.notConfigured opcode), .result .busy] } := by
  simp [rejectUnconfigured, answer, observe, diagLog]

/-- Everything `start_session` can do (41 R131 to R133). -/
theorem startSession_cases (opcode : Byte) (s : State) :
    (s.configured = false ∧ startSession opcode s = rejectUnconfigured opcode s) ∨
    (s.configured = true ∧ s.state ≠ .idle ∧ startSession opcode s = rejectBusy opcode s) ∨
    (s.configured = true ∧ s.state = .idle ∧ startSession opcode s = acceptSession opcode s) := by
  unfold startSession busy
  by_cases hc : s.configured = true <;> by_cases hs : s.state = .idle <;> simp [hc, hs]

theorem startSession_idle {s : State} (hc : s.configured = true) (hs : s.state = .idle) (opcode : Byte) :
    startSession opcode s = acceptSession opcode s := by
  simp [startSession, busy, hc, hs]

theorem startSession_busy {s : State} (hc : s.configured = true) (hs : s.state ≠ .idle) (opcode : Byte) :
    startSession opcode s = rejectBusy opcode s := by
  simp [startSession, busy, hc, hs]

/-! ### on_tick, one lemma per value of `state` -/

theorem onTick_start {s : State} (hs : s.state = .start) (w : Option Level) :
    onTick w s =
      if s.tickCountdown - 1 = 0 then { s with tickCountdown := 16, state := .request }
      else { s with tickCountdown := s.tickCountdown - 1 } := by
  simp [onTick, hs, startAction, countdownDone, requestBits, decrementCountdown]

theorem onTick_request {s : State} (hs : s.state = .request) (w : Option Level) :
    onTick w s =
      if s.tickCountdown - 1 = 0 then
        { sendBit s with tickCountdown := 2, state := .turnaround }
      else { sendBit s with tickCountdown := s.tickCountdown - 1 } := by
  simp only [onTick, hs, requestAction, countdownDone, turnaroundTicks, decrementCountdown, sendBit, lineDrive, beq_iff_eq]

theorem onTick_turnaround {s : State} (hs : s.state = .turnaround) (w : Option Level) :
    onTick w s =
      if s.tickCountdown - 1 = 1 then
        { s with
          tickCountdown := s.tickCountdown - 1, lineLatch := .high, lineMode := .input
          trace := s.trace ++ [.lineDrive .high, .lineBecomeInput] }
      else if s.tickCountdown - 1 = 0 then { s with tickCountdown := 32, state := .response }
      else { s with tickCountdown := s.tickCountdown - 1 } := by
  simp [onTick, hs, turnaroundAction, countdownDone, responseBits, decrementCountdown, lineDrive, lineBecomeInput]

theorem onTick_response {s : State} (hs : s.state = .response) (w : Option Level) :
    onTick w s =
      if s.tickCountdown - 1 = 0 then
        dispatch s.requestOpcode (shiftIn s.shiftRegister (bitOfLevel (sampledLevel w s)))
          { receiveBit w s with
            tickCountdown := 2, state := .stop, lineLatch := .high, lineMode := .output
            trace := s.trace ++ [.lineRead (sampledLevel w s), .lineDrive .high, .lineBecomeOutput] }
      else { receiveBit w s with tickCountdown := s.tickCountdown - 1 } := by
  simp [onTick, hs, responseAction, finishResponse, countdownDone, stopTicks, decrementCountdown, receiveBit, lineRead,
    lineDrive, lineBecomeOutput, sampledLevel]

theorem onTick_stop {s : State} (hs : s.state = .stop) (w : Option Level) :
    onTick w s =
      if s.tickCountdown - 1 = 0 then
        { s with tickCountdown := 0, state := .idle, tickArmed := false, trace := s.trace ++ [.tickDisarm] }
      else { s with tickCountdown := s.tickCountdown - 1 } := by
  simp only [onTick, hs, stopAction, countdownDone, decrementCountdown, tickDisarm, beq_iff_eq]
  split <;> simp_all

theorem onTick_idle {s : State} (hs : s.state = .idle) (w : Option Level) :
    onTick w s =
      { s with
        tickCountdown := s.tickCountdown - 1, state := .idle, protocolFault := true, tickArmed := false
        trace := s.trace ++ [.tickDisarm, .log (.protocolFault .tickWhileIdle)] } := by
  simp [onTick, hs, raise_protocolFault, decrementCountdown]

theorem onTick_unrecognized {s : State} {code : BadCode} (hs : s.state = .unrecognized code) (w : Option Level) :
    onTick w s =
      { s with
        tickCountdown := s.tickCountdown - 1, state := .idle, protocolFault := true, tickArmed := false
        trace := s.trace ++ [.tickDisarm, .log (.protocolFault (.unrecognizedState code))] } := by
  simp [onTick, hs, raise_protocolFault, decrementCountdown]

/-! ### init -/

/-- Where `configurationFails` says no, both divisors are not 0 and the quotient is not 0 (44 R224). -/
theorem configurationFails_eq_false {ref pre rate : Word} :
    configurationFails ref pre rate = false ↔
      ref ≠ 0 ∧ rate ≠ 0 ∧ pre + 1 ≠ 0 ∧ ref / (pre + 1) / rate ≠ 0 := by
  simp [configurationFails, and_assoc]

end Sys2Proof.Machine
end

