-- ==== Sys2Proof/Laws/Step.lean ====
section
/-!
SUPPORT. The step, once: which call it performs, what each call can answer.
-/

namespace Sys2Proof.Machine

/-- `0x80 | level` is the pattern `1lllllll` (30 R91). -/
theorem setblOpcode_eq (level : BitVec 7) : setblOpcode level = encodeOpcode (.setbl level) := by
  revert level
  decide +kernel

/-- `n` widened is the pattern `0nnnnnnn` (30 R93). -/
theorem ackOpcode_eq (n : BitVec 7) : ackOpcode n = encodeOpcode (.ack n) := by
  revert n
  decide +kernel

/-- Every instruction starts a session with its own opcode (43 R200, 30 R94). -/
theorem exec_eq (i : Instr) (s : State) : exec i s = .next (startSession (encodeOpcode i) s) := by
  cases i with
  | touch => rfl
  | ident => rfl
  | blprobe => rfl
  | setbl level => simp [exec, execSetbl, setblOpcode_eq]
  | ack n => simp [exec, execAck, ackOpcode_eq]

/-- An opcode is read back as an instruction of that opcode (30 R88). -/
theorem encodeOpcode_decodeOpcode : ∀ opcode : Byte, encodeOpcode (decodeOpcode opcode) = opcode := by
  decide +kernel

theorem fetch_nil {s : State} (h : s.inbox = []) : fetch s = none := by
  simp [fetch, h]

theorem fetch_cons {s : State} {call : Input} {rest : List Input} (h : s.inbox = call :: rest) :
    fetch s = some (call, { s with inbox := rest }) := by
  simp [fetch, h]

theorem step_nil {s : State} (h : s.inbox = []) : step s = .next s := by
  simp [step, fetch_nil h]

theorem step_cons {s : State} {call : Input} {rest : List Input} (h : s.inbox = call :: rest) :
    step s = deliver call { s with inbox := rest } := by
  simp [step, fetch_cons h]

/-- A start request is `start_session` with its opcode, whatever class the opcode is in. -/
theorem deliver_start (opcode : Byte) (s : State) : deliver (.start opcode) s = .next (startSession opcode s) := by
  simp [deliver, exec_eq, encodeOpcode_decodeOpcode]

/-- Everything a call can answer as a next state. -/
theorem deliver_cases {call : Input} {s t : State} (h : deliver call s = .next t) :
    (∃ ref pre rate, call = .init ref pre rate ∧ s.state = .idle ∧ configurationFails ref pre rate = true ∧
      t = raiseCondition .configurationError s) ∨
    (∃ ref pre rate, call = .init ref pre rate ∧ s.state = .idle ∧ configurationFails ref pre rate = false ∧
      t = { s with reloadValue := deriveReload ref pre rate, configured := true }) ∨
    (∃ opcode, call = .start opcode ∧ t = startSession opcode s) ∨
    (∃ w, call = .tick w ∧ t = onTick w s) ∨
    (call = .shutdown ∧ t = shutdown s) ∨
    (call = .reset ∧ t = resetCore s) ∨
    (call = .handOver ∧ t = handOver s) := by
  cases call with
  | init ref pre rate =>
    simp only [deliver, init] at h
    split at h
    · cases h
    · rename_i hb
      have hi : s.state = .idle := busy_eq_false.mp (by simpa using hb)
      split at h
      · rename_i hf
        cases h
        exact .inl ⟨ref, pre, rate, rfl, hi, hf, rfl⟩
      · rename_i hf
        cases h
        exact .inr (.inl ⟨ref, pre, rate, rfl, hi, by simpa using hf, rfl⟩)
  | start opcode =>
    rw [deliver_start] at h
    cases h
    exact .inr (.inr (.inl ⟨opcode, rfl, rfl⟩))
  | tick w =>
    cases h
    exact .inr (.inr (.inr (.inl ⟨w, rfl, rfl⟩)))
  | shutdown =>
    cases h
    exact .inr (.inr (.inr (.inr (.inl ⟨rfl, rfl⟩))))
  | reset =>
    cases h
    exact .inr (.inr (.inr (.inr (.inr (.inl ⟨rfl, rfl⟩)))))
  | handOver =>
    cases h
    exact .inr (.inr (.inr (.inr (.inr (.inr ⟨rfl, rfl⟩)))))

/-- Everything a step can do: nothing where no agent calls, else the oldest call. -/
theorem step_cases {s t : State} (h : step s = .next t) :
    (s.inbox = [] ∧ t = s) ∨
    ∃ call rest, s.inbox = call :: rest ∧ deliver call { s with inbox := rest } = .next t := by
  cases hi : s.inbox with
  | nil =>
    rw [step_nil hi] at h
    cases h
    exact .inl ⟨rfl, rfl⟩
  | cons call rest => exact .inr ⟨call, rest, rfl, by rw [← step_cons hi]; exact h⟩

/-! ### Runs -/

theorem run_zero (s : State) : core.run 0 s = .next s := rfl

theorem run_succ {s t : State} (h : step s = .next t) (k : Nat) : core.run (k + 1) s = core.run k t := by
  have h' : core.step s = .next t := h
  simp only [Host.Core.run, h']

/-- A run that begins with a tick. -/
theorem run_tick {s : State} {w : Option Level} {rest : List Input} (h : s.inbox = .tick w :: rest) (k : Nat) :
    core.run (k + 1) s = core.run k (onTick w { s with inbox := rest }) :=
  run_succ (by rw [step_cons h]; rfl) k

/-- A run that begins with a start request. -/
theorem run_start {s : State} {opcode : Byte} {rest : List Input} (h : s.inbox = .start opcode :: rest) (k : Nat) :
    core.run (k + 1) s = core.run k (startSession opcode { s with inbox := rest }) :=
  run_succ (by rw [step_cons h, deliver_start]) k

/-- A run in two parts, where the first part does not stop. -/
theorem run_add {m : Nat} : ∀ {s t : State}, core.run m s = .next t →
    ∀ n : Nat, core.run (m + n) s = core.run n t := by
  induction m with
  | zero =>
    intro s t h n
    cases h
    rw [Nat.zero_add]
  | succ m ih =>
    intro s t h n
    rw [Nat.succ_add]
    cases hs : step s with
    | next s' =>
      rw [run_succ hs] at h ⊢
      exact ih h n
    | fault r => cases r
    | refused r =>
      have hs' : core.step s = .refused r := hs
      simp only [Host.Core.run, hs'] at h
      cases h

end Sys2Proof.Machine
end

