-- ==== Sys2Proof/Laws/Session.lean ====
section
/-!
SUPPORT. The phases of a session as runs of ticks: what the 16 Request ticks and the 32 Response ticks leave.
-/

namespace Sys2Proof.Machine

/-- A tick neither reads nor writes the inbox. -/
theorem onTick_setInbox (w : Option Level) (s : State) (rest : List Input) :
    onTick w { s with inbox := rest } = { onTick w s with inbox := rest } := by
  have key : ∀ st, s.state = st → onTick w { s with inbox := rest } = { onTick w s with inbox := rest } := by
    intro st hs
    have hs' : ({ s with inbox := rest } : State).state = st := hs
    cases st with
    | start => rw [onTick_start hs, onTick_start hs']; split <;> rfl
    | request => rw [onTick_request hs, onTick_request hs']; split <;> rfl
    | turnaround =>
      rw [onTick_turnaround hs, onTick_turnaround hs']
      split
      · rfl
      · split <;> rfl
    | response =>
      rw [onTick_response hs, onTick_response hs']
      split
      · rw [dispatch_eq, dispatch_eq]
        rfl
      · rfl
    | stop => rw [onTick_stop hs, onTick_stop hs']; split <;> rfl
    | idle => rw [onTick_idle hs, onTick_idle hs']
    | unrecognized code => rw [onTick_unrecognized hs, onTick_unrecognized hs']
  exact key _ rfl

@[simp] theorem onTick_inbox (w : Option Level) (s : State) : (onTick w s).inbox = s.inbox := by
  have h := congrArg State.inbox (onTick_setInbox w s s.inbox)
  exact h

/-- Ticks one after another. -/
def ticks (wires : List (Option Level)) (s : State) : State :=
  wires.foldl (fun t w => onTick w t) s

@[simp] theorem ticks_nil (s : State) : ticks [] s = s := rfl

@[simp] theorem ticks_cons (w : Option Level) (wires : List (Option Level)) (s : State) :
    ticks (w :: wires) s = ticks wires (onTick w s) := rfl

theorem ticks_append (v w : List (Option Level)) (s : State) : ticks (v ++ w) s = ticks w (ticks v s) := by
  simp [ticks]

theorem ticks_setInbox (wires : List (Option Level)) : ∀ (s : State) (rest : List Input),
    ticks wires { s with inbox := rest } = { ticks wires s with inbox := rest } := by
  induction wires with
  | nil => intro s rest; rfl
  | cons w wires ih => intro s rest; rw [ticks_cons, onTick_setInbox, ih, ticks_cons]

/-- A run whose calls are ticks is those ticks. -/
theorem run_ticks (wires : List (Option Level)) : ∀ (s : State) (rest : List Input),
    s.inbox = wires.map .tick ++ rest → core.run wires.length s = .next { ticks wires s with inbox := rest } := by
  induction wires with
  | nil =>
    intro s rest h
    have h' : s.inbox = rest := by simpa using h
    subst h'
    rfl
  | cons w wires ih =>
    intro s rest h
    rw [List.length_cons, run_tick (w := w) (rest := wires.map .tick ++ rest) (by simpa using h), ih _ rest (by simp),
      onTick_setInbox, ticks_setInbox, ticks_cons]

/-- The Request ticks: `n + 1` of them from countdown `n + 1` send the top `n + 1` bits and end in Turnaround. -/
theorem ticks_request (n : Nat) : ∀ (wires : List (Option Level)) (s : State), wires.length = n + 1 →
    s.state = .request → s.tickCountdown.toNat = n + 1 → n < 16 →
    ticks wires s =
      { s with
        state := .turnaround
        tickCountdown := 2
        shiftRegister := s.shiftRegister <<< (n + 1)
        lineLatch := levelOfBit (s.shiftRegister.getLsbD (31 - n))
        trace := s.trace ++ (List.range (n + 1)).map fun j => .lineDrive (levelOfBit (s.shiftRegister.getLsbD (31 - j))) } := by
  induction n with
  | zero =>
    intro wires s hl hs hc _
    obtain ⟨w, rfl⟩ : ∃ w, wires = [w] := List.length_eq_one_iff.mp hl
    have h0 : s.tickCountdown - 1 = 0 := by
      apply BitVec.eq_of_toNat_eq
      rw [BitVec.toNat_sub]
      simp [hc]
    rw [ticks_cons, ticks_nil, onTick_request hs, if_pos h0]
    simp [sendBit, lineDrive, shiftOut]
  | succ n ih =>
    intro wires s hl hs hc hn
    cases wires with
    | nil => simp at hl
    | cons w wires =>
      have hne : ¬ s.tickCountdown - 1 = 0 := by
        intro h
        have := congrArg BitVec.toNat h
        rw [BitVec.toNat_sub] at this
        simp [hc] at this
        omega
      rw [ticks_cons, onTick_request hs, if_neg hne]
      rw [ih wires _ (by simpa using hl) (by exact hs) (by
        show (s.tickCountdown - 1).toNat = n + 1
        rw [BitVec.toNat_sub]
        simp [hc]
        omega) (by omega)]
      have hb : ∀ j, j ≤ n → (s.shiftRegister <<< 1).getLsbD (31 - j) = s.shiftRegister.getLsbD (31 - (j + 1)) := by
        intro j hj
        rw [BitVec.getLsbD_shiftLeft]
        have h1 : decide (31 - j < 32) = true := by simp; omega
        have h2 : decide (31 - j < 1) = false := by simp; omega
        rw [h1, h2]
        simp [Nat.sub_sub]
      simp only [sendBit, lineDrive, shiftOut]
      congr 1
      · rw [← BitVec.shiftLeft_add, Nat.add_comm 1 (n + 1)]
      · rw [hb n (Nat.le_refl n)]
      · rw [List.append_assoc]
        congr 1
        rw [List.range_succ_eq_map (n := n + 1)]
        simp only [List.map_cons, List.map_map, List.singleton_append]
        congr 1
        apply List.map_congr_left
        intro j hj
        simp only [Function.comp_apply, Nat.succ_eq_add_one]
        rw [hb j (by have := List.mem_range.mp hj; omega)]

/-- Shifting in the next bit of a response (30 R86). -/
theorem shiftIn_ushiftRight (r : Word) (n : Nat) : shiftIn (r >>> (n + 1)) (r.getLsbD n) = r >>> n := by
  apply BitVec.eq_of_getLsbD_eq
  intro i hi
  unfold shiftIn
  cases i with
  | zero => simp
  | succ i =>
    have h1 : decide (i + 1 < 32) = true := by simp; omega
    have h2 : ((BitVec.ofBool (r.getLsbD n)).setWidth 32).getLsbD (i + 1) = false := by
      rw [BitVec.getLsbD_setWidth, BitVec.getLsbD_of_ge _ _ (by omega)]
      simp
    rw [BitVec.getLsbD_or, BitVec.getLsbD_shiftLeft, BitVec.getLsbD_ushiftRight, BitVec.getLsbD_ushiftRight, h1, h2]
    simp
    congr 1
    omega

/-- The Response ticks: `n + 1` of them from countdown `n + 1`, presenting the bits of `r` from `n` down, end in Stop
with the whole of `r` dispatched. -/
theorem ticks_response (r : Word) (n : Nat) : ∀ s : State, s.state = .response → s.tickCountdown.toNat = n + 1 →
    n < 32 → s.shiftRegister = r >>> (n + 1) →
    ticks ((List.range (n + 1)).map fun j => some (levelOfBit (r.getLsbD (n - j)))) s =
      dispatch s.requestOpcode r
        { s with
          state := .stop
          tickCountdown := 2
          shiftRegister := r
          lineMode := .output
          lineLatch := .high
          draws := s.draws + (n + 1)
          trace := s.trace ++ ((List.range (n + 1)).map (fun j => .lineRead (levelOfBit (r.getLsbD (n - j))))
            ++ [.lineDrive .high, .lineBecomeOutput]) } := by
  induction n with
  | zero =>
    intro s hs hc _ hr
    have h0 : s.tickCountdown - 1 = 0 := by
      apply BitVec.eq_of_toNat_eq
      rw [BitVec.toNat_sub]
      simp [hc]
    have hx : shiftIn s.shiftRegister (r.getLsbD 0) = r := by
      rw [hr, shiftIn_ushiftRight]
      exact BitVec.ushiftRight_zero r
    simp only [List.range_succ, List.range_zero, List.nil_append, List.map_cons, List.map_nil, Nat.sub_zero, ticks_cons,
      ticks_nil]
    rw [onTick_response hs, if_pos h0]
    simp only [sampledLevel, Option.getD_some, bitOfLevel_levelOfBit, hx, receiveBit, lineRead]
    rfl
  | succ n ih =>
    intro s hs hc hn hr
    have hne : ¬ s.tickCountdown - 1 = 0 := by
      intro h
      have := congrArg BitVec.toNat h
      rw [BitVec.toNat_sub] at this
      simp [hc] at this
      omega
    have hx : shiftIn s.shiftRegister (r.getLsbD (n + 1)) = r >>> (n + 1) := by
      rw [hr, shiftIn_ushiftRight]
    rw [List.range_succ_eq_map (n := n + 1)]
    simp only [List.map_cons, List.map_map, Nat.sub_zero, ticks_cons]
    have hf : ((fun j => some (levelOfBit (r.getLsbD (n + 1 - j)))) ∘ Nat.succ) =
        fun j => some (levelOfBit (r.getLsbD (n - j))) := by
      funext j
      simp [Nat.succ_eq_add_one]
    have hg : ((fun j => Effect.lineRead (levelOfBit (r.getLsbD (n + 1 - j)))) ∘ Nat.succ) =
        fun j => Effect.lineRead (levelOfBit (r.getLsbD (n - j))) := by
      funext j
      simp [Nat.succ_eq_add_one]
    rw [hf, hg, onTick_response hs, if_neg hne]
    rw [ih _ (by exact hs) (by
      show (s.tickCountdown - 1).toNat = n + 1
      rw [BitVec.toNat_sub]
      simp [hc]
      omega) (by omega) (by
      show shiftIn s.shiftRegister (bitOfLevel (sampledLevel (some (levelOfBit (r.getLsbD (n + 1)))) s)) = _
      rw [sampledLevel, Option.getD_some, bitOfLevel_levelOfBit]
      exact hx)]
    simp only [receiveBit, lineRead, sampledLevel, Option.getD_some]
    congr 2
    · simp
    · omega

end Sys2Proof.Machine
end

