-- ==== Sys2Proof/Laws/Blocking.lean ====
section
/-!
SUPPORT. What the operations of the blocking variant do.
-/

namespace Sys2Proof.Machine

@[simp] theorem blockingExchange_sent (opcode : Byte) (wire : Nat → Level) :
    (blockingExchange opcode wire).sent = blockingFrame opcode := rfl

@[simp] theorem blockingExchange_calls (opcode : Byte) (wire : Nat → Level) :
    (blockingExchange opcode wire).calls =
      blockingSend (blockingFrame opcode) ++ blockingTurnaround ++ blockingReads wire := rfl

@[simp] theorem blockingExchange_received (opcode : Byte) (wire : Nat → Level) :
    (blockingExchange opcode wire).received = blockingReceive wire := rfl

/-- A call with no attempt left makes no exchange. -/
@[simp] theorem blockingTry_zero (opcode : Byte) (wire : Nat → Nat → Level) (k : Nat) :
    blockingTry opcode wire 0 k = { exchanges := [], accepted := none } := rfl

/-- An exchange whose response passes the check ends the call. -/
theorem blockingTry_accept {wire : Nat → Nat → Level} {k : Nat}
    (h : blockingAccepts (blockingReceive (wire k)) = true) (opcode : Byte) (left : Nat) :
    blockingTry opcode wire (left + 1) k =
      { exchanges := [blockingExchange opcode (wire k)], accepted := some (blockingReceive (wire k)) } := by
  simp [blockingTry, h]

/-- An exchange whose response fails the check is followed by the attempts that are left. -/
theorem blockingTry_retry {wire : Nat → Nat → Level} {k : Nat}
    (h : blockingAccepts (blockingReceive (wire k)) = false) (opcode : Byte) (left : Nat) :
    blockingTry opcode wire (left + 1) k =
      { exchanges := blockingExchange opcode (wire k) :: (blockingTry opcode wire left (k + 1)).exchanges
        accepted := (blockingTry opcode wire left (k + 1)).accepted } := by
  simp [blockingTry, h]

/-- After `n` samples of a presented word the top `n` bits of it are in (30 R86). -/
theorem foldl_shiftIn_presented (r : Word) : ∀ n ≤ 32,
    (List.range n).foldl (fun raw j => shiftIn raw (r.getLsbD (31 - j))) 0 = r >>> (32 - n) := by
  intro n
  induction n with
  | zero =>
    intro _
    apply BitVec.eq_of_getLsbD_eq
    intro i hi
    simp
  | succ n ih =>
    intro hn
    rw [List.range_succ, List.foldl_append, ih (by omega), List.foldl_cons, List.foldl_nil,
      show 32 - n = (31 - n) + 1 by omega, shiftIn_ushiftRight]
    congr 1
    omega

/-- The samples of a word that is presented most significant bit first make that word (30 R83). -/
theorem blockingReceive_presented (r : Word) :
    blockingReceive (fun j => levelOfBit (r.getLsbD (31 - j))) = r := by
  unfold blockingReceive
  simp only [bitOfLevel_levelOfBit]
  rw [foldl_shiftIn_presented r 32 (by omega)]
  exact BitVec.ushiftRight_zero r

end Sys2Proof.Machine
end

