-- ==== Sys2Proof/Laws/Crc.lean ====
section
/-!
SUPPORT. The CRC engine: the bit step is linear, and one byte of the bit-serial form is one table read.
-/

namespace Sys2Proof

/-- The bit step is linear over GF(2) in register and data bit jointly. -/
theorem crcBit_xor (a b : Byte) (d e : Bool) : crcBit (a ^^^ b) (Bool.xor d e) = crcBit a d ^^^ crcBit b e := by
  have hs : (a ^^^ b) <<< 1 = (a <<< 1) ^^^ (b <<< 1) := BitVec.shiftLeft_xor_distrib a b 1
  unfold crcBit
  rw [BitVec.getLsbD_xor, hs]
  generalize a <<< 1 = x
  generalize b <<< 1 = y
  generalize crcPoly = p
  cases a.getLsbD 7 <;> cases b.getLsbD 7 <;> cases d <;> cases e <;>
    (ext k hk; cases h : x[k] <;> cases h' : y[k] <;> cases h'' : p[k] <;> simp [h, h', h''])

/-- Bit steps over two lists of data bits of equal length. -/
theorem foldl_crcBit_xor (ds : List Bool) : ∀ (es : List Bool) (a b : Byte), ds.length = es.length →
    (List.zipWith Bool.xor ds es).foldl crcBit (a ^^^ b) = ds.foldl crcBit a ^^^ es.foldl crcBit b := by
  induction ds with
  | nil => intro es a b h; cases es with
    | nil => rfl
    | cons e es => simp at h
  | cons d ds ih => intro es a b h; cases es with
    | nil => simp at h
    | cons e es =>
      simp only [List.zipWith_cons_cons, List.foldl_cons, crcBit_xor]
      exact ih es _ _ (by simpa using h)

/-- The bits of an exclusive or are the exclusive ors of the bits. -/
theorem bitsMsbFirst_xor (a b : Byte) :
    bitsMsbFirst (a ^^^ b) = List.zipWith Bool.xor (bitsMsbFirst a) (bitsMsbFirst b) := by
  simp [bitsMsbFirst]

/-- One byte of the stream is linear in register and byte jointly. -/
theorem crcByteSerial_xor (a b c d : Byte) :
    crcByteSerial (a ^^^ b) (c ^^^ d) = crcByteSerial a c ^^^ crcByteSerial b d := by
  unfold crcByteSerial
  rw [bitsMsbFirst_xor]
  exact foldl_crcBit_xor _ _ _ _ rfl

/-- A byte absorbed by a register that equals it leaves 0 (40 R118(c)). -/
theorem crcByteSerial_self : ∀ c : Byte, crcByteSerial c c = 0 := by decide +kernel

/-- A table entry is one byte of zeros absorbed (40 R113). -/
theorem crcRom_eq (i : Byte) : crcRom i = crcByteSerial i 0 := rfl

/-- One byte of the bit-serial form is one table read at register XOR byte (40 R112, R114). -/
theorem crcByteSerial_eq_crcRom (c b : Byte) : crcByteSerial c b = crcRom (c ^^^ b) := by
  have h := crcByteSerial_xor (c ^^^ b) b 0 b
  rw [crcByteSerial_self b] at h
  simpa [BitVec.xor_assoc, crcRom_eq] using h

/-- The table is linear. -/
theorem crcRom_xor (a b : Byte) : crcRom (a ^^^ b) = crcRom a ^^^ crcRom b := by
  simpa [crcRom_eq] using crcByteSerial_xor a b 0 0

/-- The table has no two equal entries (40 R118(e)). -/
theorem crcRom_eq_zero : ∀ i : Byte, crcRom i = 0 → i = 0 := by decide +kernel

/-- The table is a bijection (40 R118(e)). -/
theorem crcRom_injective (a b : Byte) (h : crcRom a = crcRom b) : a = b := by
  have h0 : crcRom (a ^^^ b) = 0 := by simp [crcRom_xor, h]
  have := crcRom_eq_zero _ h0
  exact BitVec.xor_eq_zero_iff.mp this

/-- An empty stream gives the seed (40 R118(a)). -/
@[simp] theorem crc8_nil (init : Byte) : crc8 init [] = init := rfl

@[simp] theorem crc8_cons (init b : Byte) (stream : List Byte) :
    crc8 init (b :: stream) = crc8 (crcRom (init ^^^ b)) stream := rfl

/-- A stream in two parts: the first part's value is the second part's seed (40 R118(b)). -/
theorem crc8_append (init : Byte) (s t : List Byte) : crc8 init (s ++ t) = crc8 (crc8 init s) t := by
  simp [crc8, crc8Table]

/-- Every byte is a table entry (40 R118(e)). -/
theorem crcRom_surjective (c : Byte) : ∃ i, crcRom i = c :=
  Finite.surjective_of_injective (fun a b h => crcRom_injective a b h) c

@[simp] theorem crcSeedContribution_zero (init : Byte) : crcSeedContribution init 0 = init := rfl

/-- One more byte of zeros is one more table read. -/
@[simp] theorem crcSeedContribution_succ (init : Byte) (n : Nat) :
    crcSeedContribution init (n + 1) = crcSeedContribution (crcRom init) n := by
  simp [crcSeedContribution, List.replicate_succ]

end Sys2Proof
end

