-- ==== Sys2Proof/Laws/PerInstr.lean ====
section
/-!
SUPPORT. Statements made per instruction.
-/

namespace Sys2Proof.Laws

/-- The opcode of a well-formed instruction lies in its row of the opcode table, and in no exact row but its own
(30 R88 to R93). -/
def EncodingMatchesRow.Statement (i : Instr) : Prop :=
  i.wellFormed = true →
    i.row.accepts (encodeOpcode i) = true ∧
    (i = .touch ∨ Instr.touch.row.accepts (encodeOpcode i) = false) ∧
    (i = .ident ∨ Instr.ident.row.accepts (encodeOpcode i) = false) ∧
    (i = .blprobe ∨ Instr.blprobe.row.accepts (encodeOpcode i) = false)

theorem EncodingMatchesRow.touch : EncodingMatchesRow.Statement .touch := by
  unfold EncodingMatchesRow.Statement
  decide

theorem EncodingMatchesRow.ident : EncodingMatchesRow.Statement .ident := by
  unfold EncodingMatchesRow.Statement
  decide

theorem EncodingMatchesRow.blprobe : EncodingMatchesRow.Statement .blprobe := by
  unfold EncodingMatchesRow.Statement
  decide

theorem EncodingMatchesRow.setbl (level : BitVec 7) : EncodingMatchesRow.Statement (.setbl level) := by
  unfold EncodingMatchesRow.Statement
  revert level
  decide +kernel

theorem EncodingMatchesRow.ack (n : BitVec 7) : EncodingMatchesRow.Statement (.ack n) := by
  unfold EncodingMatchesRow.Statement
  revert n
  decide +kernel

end Sys2Proof.Laws
end

