-- ==== Sys2Proof/Tests/Slice0.lean ====
section
/-!
SUPPORT. The model's own tests: refused terms, decoding of words written out from the spec, the vectors of
spec/95_test_vectors.md (each one step), and for every statement with hypotheses a state and operands that meet them.
-/

namespace Sys2Proof.Tests

open Sys2Proof.Machine
open Sys2Proof.Safety

/-! ### Helpers -/

/-- The next state of an outcome, if there is one. -/
def after (o : Host.Outcome State Fault Refusal) : Option State :=
  match o with
  | .next t => some t
  | .fault _ => none
  | .refused _ => none

/-- The reason of a refusal. -/
def refusal (o : Host.Outcome State Fault Refusal) : Option Refusal :=
  match o with
  | .next _ => none
  | .fault _ => none
  | .refused r => some r

/-- The CORE after reset and `init 12000000, 0, 9600` (95 section 2.10). -/
def ready : State :=
  { State.reset with
    configured := true
    reloadValue := 1249 }

/-- A CORE in the middle of a session with opcode `0x40`, with the calls that come next. -/
def midway (st : SessionState) (cd shift : Word) (calls : List Input) : State :=
  { ready with
    state := st
    tickCountdown := cd
    shiftRegister := shift
    requestOpcode := 0x40
    tickArmed := true
    inbox := calls }

/-- The Session registers, as one row of 95 section 2.6 gives them. -/
def registers (s : State) : SessionState × Word × Word :=
  (s.state, s.tickCountdown, s.shiftRegister)

/-- No level on the wire where nobody reads it. -/
def quiet (_ : Nat) : Option Level :=
  none

/-! ### WellFormed smoke: the three low opcodes that are not ACK (30 R93) -/

theorem test_ack_0x40_is_ill_formed : (Instr.ack 0x40).wellFormed = false := by decide
theorem test_ack_0x60_is_ill_formed : (Instr.ack 0x60).wellFormed = false := by decide
theorem test_ack_0x7F_is_ill_formed : (Instr.ack 0x7F).wellFormed = false := by decide
theorem test_ack_neighbours_are_well_formed :
    [0x00, 0x3F, 0x41, 0x5F, 0x61, 0x7E].all (fun n => (Instr.ack n).wellFormed) = true := by decide

/-! ### Decoding: words written out from the encodings of the opcode table -/

theorem test_decode_touch : decodeTableWord 8 0b01000000 = some .touch := by decide
theorem test_decode_ident : decodeTableWord 8 0b01100000 = some .ident := by decide
theorem test_decode_blprobe : decodeTableWord 8 0b01111111 = some .blprobe := by decide
theorem test_decode_setbl :
    decodeTableWord 8 0b10000000 = some (.setbl 0) ∧ decodeTableWord 8 0b11000000 = some (.setbl 64) ∧
      decodeTableWord 8 0b11111111 = some (.setbl 127) := by decide
theorem test_decode_ack :
    decodeTableWord 8 0b00000000 = some (.ack 0) ∧ decodeTableWord 8 0b01000001 = some (.ack 0x41) ∧
      decodeTableWord 8 0b01111110 = some (.ack 0x7E) := by decide
/-- 95 section 2.9: the request frames, opcode and check byte. -/
theorem test_frames :
    [encodeFrame .touch, encodeFrame .ident, encodeFrame .blprobe, encodeFrame (.setbl 0), encodeFrame (.setbl 64),
      encodeFrame (.setbl 127), encodeFrame (.ack 0), encodeFrame (.ack 1), encodeFrame (.ack 0x41),
      encodeFrame (.ack 0x7E)] =
    [0x408A, 0x606A, 0x7F37, 0x80C4, 0xC003, 0xFFBE, 0x004D, 0x014A, 0x418D, 0x7E30] := by decide
theorem test_frame_with_a_bad_check_is_rejected : decodeFrame 0x408B = .error .badCheck := by decide
theorem test_no_bytes_are_rejected : decodeBytes [] = .error .noOpcode := by decide

/-! ### CRC (95 sections 2.1 to 2.4) -/

/-- 95 section 2.1: one bit step. -/
theorem test_crc_bit :
    [crcBit 0xAC false, crcBit 0xAC true, crcBit 0x00 false, crcBit 0x00 true, crcBit 0x80 false, crcBit 0x80 true,
      crcBit 0xFF false, crcBit 0xFF true, crcBit 0x7F true] =
    [0x5F, 0x58, 0x00, 0x07, 0x07, 0x00, 0xF9, 0xFE, 0xF9] := by decide
/-- 95 section 2.1: streams. -/
theorem test_crc_streams :
    [crc8Serial 0xAC [], crc8Serial 0xAC [0x12, 0x34, 0x56], crc8Serial 0xAC [0xFF, 0x0E, 0x1F],
      crc8Serial 0xAC [0xAB, 0xCD, 0xEF]] = [0xAC, 0xCE, 0x12, 0x91] := by decide +kernel
/-- 40 R118(c), (f): the seed absorbs itself to 0; its contributions at lengths 1, 3 and 4. -/
theorem test_crc_seed :
    crc8 0xAC [0xAC] = 0 ∧ [1, 3, 4].map (crcSeedContribution 0xAC) = [0x4D, 0xB2, 0x17] := by decide +kernel
/-- 40 R121: the table the document's form gives is the one listed. -/
theorem test_crc_table : crcRomTable =
    [0x00, 0x07, 0x0E, 0x09, 0x1C, 0x1B, 0x12, 0x15, 0x38, 0x3F, 0x36, 0x31, 0x24, 0x23, 0x2A, 0x2D] ++
    [0x70, 0x77, 0x7E, 0x79, 0x6C, 0x6B, 0x62, 0x65, 0x48, 0x4F, 0x46, 0x41, 0x54, 0x53, 0x5A, 0x5D] ++
    [0xE0, 0xE7, 0xEE, 0xE9, 0xFC, 0xFB, 0xF2, 0xF5, 0xD8, 0xDF, 0xD6, 0xD1, 0xC4, 0xC3, 0xCA, 0xCD] ++
    [0x90, 0x97, 0x9E, 0x99, 0x8C, 0x8B, 0x82, 0x85, 0xA8, 0xAF, 0xA6, 0xA1, 0xB4, 0xB3, 0xBA, 0xBD] ++
    [0xC7, 0xC0, 0xC9, 0xCE, 0xDB, 0xDC, 0xD5, 0xD2, 0xFF, 0xF8, 0xF1, 0xF6, 0xE3, 0xE4, 0xED, 0xEA] ++
    [0xB7, 0xB0, 0xB9, 0xBE, 0xAB, 0xAC, 0xA5, 0xA2, 0x8F, 0x88, 0x81, 0x86, 0x93, 0x94, 0x9D, 0x9A] ++
    [0x27, 0x20, 0x29, 0x2E, 0x3B, 0x3C, 0x35, 0x32, 0x1F, 0x18, 0x11, 0x16, 0x03, 0x04, 0x0D, 0x0A] ++
    [0x57, 0x50, 0x59, 0x5E, 0x4B, 0x4C, 0x45, 0x42, 0x6F, 0x68, 0x61, 0x66, 0x73, 0x74, 0x7D, 0x7A] ++
    [0x89, 0x8E, 0x87, 0x80, 0x95, 0x92, 0x9B, 0x9C, 0xB1, 0xB6, 0xBF, 0xB8, 0xAD, 0xAA, 0xA3, 0xA4] ++
    [0xF9, 0xFE, 0xF7, 0xF0, 0xE5, 0xE2, 0xEB, 0xEC, 0xC1, 0xC6, 0xCF, 0xC8, 0xDD, 0xDA, 0xD3, 0xD4] ++
    [0x69, 0x6E, 0x67, 0x60, 0x75, 0x72, 0x7B, 0x7C, 0x51, 0x56, 0x5F, 0x58, 0x4D, 0x4A, 0x43, 0x44] ++
    [0x19, 0x1E, 0x17, 0x10, 0x05, 0x02, 0x0B, 0x0C, 0x21, 0x26, 0x2F, 0x28, 0x3D, 0x3A, 0x33, 0x34] ++
    [0x4E, 0x49, 0x40, 0x47, 0x52, 0x55, 0x5C, 0x5B, 0x76, 0x71, 0x78, 0x7F, 0x6A, 0x6D, 0x64, 0x63] ++
    [0x3E, 0x39, 0x30, 0x37, 0x22, 0x25, 0x2C, 0x2B, 0x06, 0x01, 0x08, 0x0F, 0x1A, 0x1D, 0x14, 0x13] ++
    [0xAE, 0xA9, 0xA0, 0xA7, 0xB2, 0xB5, 0xBC, 0xBB, 0x96, 0x91, 0x98, 0x9F, 0x8A, 0x8D, 0x84, 0x83] ++
    [0xDE, 0xD9, 0xD0, 0xD7, 0xC2, 0xC5, 0xCC, 0xCB, 0xE6, 0xE1, 0xE8, 0xEF, 0xFA, 0xFD, 0xF4, 0xF3] :=
  by decide +kernel
/-- 95 section 2.2: the check byte of every opcode. -/
theorem test_check_bytes : (List.range 256).map (fun i => checkByte (BitVec.ofNat 8 i)) =
    [0x4D, 0x4A, 0x43, 0x44, 0x51, 0x56, 0x5F, 0x58, 0x75, 0x72, 0x7B, 0x7C, 0x69, 0x6E, 0x67, 0x60] ++
    [0x3D, 0x3A, 0x33, 0x34, 0x21, 0x26, 0x2F, 0x28, 0x05, 0x02, 0x0B, 0x0C, 0x19, 0x1E, 0x17, 0x10] ++
    [0xAD, 0xAA, 0xA3, 0xA4, 0xB1, 0xB6, 0xBF, 0xB8, 0x95, 0x92, 0x9B, 0x9C, 0x89, 0x8E, 0x87, 0x80] ++
    [0xDD, 0xDA, 0xD3, 0xD4, 0xC1, 0xC6, 0xCF, 0xC8, 0xE5, 0xE2, 0xEB, 0xEC, 0xF9, 0xFE, 0xF7, 0xF0] ++
    [0x8A, 0x8D, 0x84, 0x83, 0x96, 0x91, 0x98, 0x9F, 0xB2, 0xB5, 0xBC, 0xBB, 0xAE, 0xA9, 0xA0, 0xA7] ++
    [0xFA, 0xFD, 0xF4, 0xF3, 0xE6, 0xE1, 0xE8, 0xEF, 0xC2, 0xC5, 0xCC, 0xCB, 0xDE, 0xD9, 0xD0, 0xD7] ++
    [0x6A, 0x6D, 0x64, 0x63, 0x76, 0x71, 0x78, 0x7F, 0x52, 0x55, 0x5C, 0x5B, 0x4E, 0x49, 0x40, 0x47] ++
    [0x1A, 0x1D, 0x14, 0x13, 0x06, 0x01, 0x08, 0x0F, 0x22, 0x25, 0x2C, 0x2B, 0x3E, 0x39, 0x30, 0x37] ++
    [0xC4, 0xC3, 0xCA, 0xCD, 0xD8, 0xDF, 0xD6, 0xD1, 0xFC, 0xFB, 0xF2, 0xF5, 0xE0, 0xE7, 0xEE, 0xE9] ++
    [0xB4, 0xB3, 0xBA, 0xBD, 0xA8, 0xAF, 0xA6, 0xA1, 0x8C, 0x8B, 0x82, 0x85, 0x90, 0x97, 0x9E, 0x99] ++
    [0x24, 0x23, 0x2A, 0x2D, 0x38, 0x3F, 0x36, 0x31, 0x1C, 0x1B, 0x12, 0x15, 0x00, 0x07, 0x0E, 0x09] ++
    [0x54, 0x53, 0x5A, 0x5D, 0x48, 0x4F, 0x46, 0x41, 0x6C, 0x6B, 0x62, 0x65, 0x70, 0x77, 0x7E, 0x79] ++
    [0x03, 0x04, 0x0D, 0x0A, 0x1F, 0x18, 0x11, 0x16, 0x3B, 0x3C, 0x35, 0x32, 0x27, 0x20, 0x29, 0x2E] ++
    [0x73, 0x74, 0x7D, 0x7A, 0x6F, 0x68, 0x61, 0x66, 0x4B, 0x4C, 0x45, 0x42, 0x57, 0x50, 0x59, 0x5E] ++
    [0xE3, 0xE4, 0xED, 0xEA, 0xFF, 0xF8, 0xF1, 0xF6, 0xDB, 0xDC, 0xD5, 0xD2, 0xC7, 0xC0, 0xC9, 0xCE] ++
    [0x93, 0x94, 0x9D, 0x9A, 0x8F, 0x88, 0x81, 0x86, 0xAB, 0xAC, 0xA5, 0xA2, 0xB7, 0xB0, 0xB9, 0xBE] :=
  by decide +kernel
/-- 95 section 2.4: valid and invalid responses; the last valid one differs in four bits from the first. -/
theorem test_frame_validity :
    [0x123456CE, 0x123457C9, 0x000000B2, 0xFFFFFFBD].all frameValid = true ∧
      [0x123456CF, 0x123457CE, 0x923456CE, 0x00000000, 0xFFFFFFFF].all (fun r => !frameValid r) = true :=
  by decide +kernel

/-! ### Requests (95 section 2.5) -/

theorem test_touch_starts : (after (exec .touch ready)).map registers = some (.start, 1, 0x408A0000) := by decide
theorem test_touch_starts_in_this_order : (after (exec .touch ready)).map State.trace =
    some [.lineDrive .high, .lineDrive .low, .tickArm 1249, .result .accepted] := by decide
theorem test_ident_starts : (after (exec .ident ready)).map registers = some (.start, 1, 0x606A0000) := by decide
theorem test_ident_while_busy :
    (after (exec .ident (midway .request 14 0x02280000 []))).map
        (fun t => (registers t, t.requestOpcode, t.totalBusy, t.trace)) =
      some ((.request, 14, 0x02280000), 0x40, 1, [.log (.dropped 0x60), .result .busy]) := by decide
theorem test_blprobe_starts : (after (exec .blprobe ready)).map registers = some (.start, 1, 0x7F370000) := by decide
theorem test_blprobe_in_an_unrecognized_state :
    (after (exec .blprobe (midway (.unrecognized .code6) 15 0x81140000 []))).map (fun t => (registers t, t.totalBusy)) =
      some ((.unrecognized .code6, 15, 0x81140000), 1) := by decide
theorem test_setbl_starts : (after (exec (.setbl 127) ready)).map registers = some (.start, 1, 0xFFBE0000) := by decide
theorem test_setbl_before_init :
    (after (exec (.setbl 0) State.reset)).map (fun t => (t.state, t.tickArmed, t.totalBusy, t.trace)) =
      some (.idle, false, 0, [.log (.notConfigured 0x80), .result .busy]) := by decide
theorem test_ack_starts : (after (exec (.ack 0) ready)).map registers = some (.start, 1, 0x004D0000) := by decide
theorem test_ack_while_the_last_tick_is_due :
    (after (exec (.ack 1) (midway .stop 1 0x123456CE []))).map (fun t => (registers t, t.totalBusy)) =
      some ((.stop, 1, 0x123456CE), 1) := by decide

/-! ### Ticks (95 section 2.6), one step each -/

/-- One tick of a session with opcode `0x40`: the registers after it and what it put out. -/
def oneTick (st : SessionState) (cd shift : Word) (wire : Option Level) :
    Option ((SessionState × Word × Word) × List Effect) :=
  (after (step (midway st cd shift [.tick wire]))).map fun t => (registers t, t.trace)

theorem test_tick_start : oneTick .start 1 0x408A0000 none = some ((.request, 16, 0x408A0000), []) := by decide
theorem test_tick_start_again : oneTick .start 2 0x408A0000 none = some ((.start, 1, 0x408A0000), []) := by decide
theorem test_tick_request_low :
    oneTick .request 16 0x408A0000 none = some ((.request, 15, 0x81140000), [.lineDrive .low]) := by decide
theorem test_tick_request_high :
    oneTick .request 15 0x81140000 none = some ((.request, 14, 0x02280000), [.lineDrive .high]) := by decide
theorem test_tick_request_last :
    oneTick .request 1 0x80000000 none = some ((.turnaround, 2, 0), [.lineDrive .high]) := by decide
theorem test_tick_turnaround_releases :
    oneTick .turnaround 2 0 none = some ((.turnaround, 1, 0), [.lineDrive .high, .lineBecomeInput]) := by decide
theorem test_tick_turnaround_last : oneTick .turnaround 1 0 none = some ((.response, 32, 0), []) := by decide
theorem test_tick_response_high :
    oneTick .response 32 0 (some .high) = some ((.response, 31, 1), [.lineRead .high]) := by decide
theorem test_tick_response_loses_bit_31 :
    oneTick .response 5 0x80000001 (some .high) = some ((.response, 4, 3), [.lineRead .high]) := by decide
theorem test_tick_response_last :
    oneTick .response 1 0x091A2B67 (some .low) =
      some ((.stop, 2, 0x123456CE),
        [.lineRead .low, .lineDrive .high, .lineBecomeOutput, .emit (.onTouch 0x134 0x256 true)]) := by decide +kernel
theorem test_tick_response_last_bad :
    oneTick .response 1 0x091A2B67 (some .high) =
      some ((.stop, 2, 0x123456CF),
        [.lineRead .high, .lineDrive .high, .lineBecomeOutput, .log (.frameError 0x40 0x123456CF),
          .emit (.onFrameError 0x40 0x123456CF)]) := by decide +kernel
theorem test_tick_stop : oneTick .stop 2 7 none = some ((.stop, 1, 7), []) := by decide
theorem test_tick_stop_last : oneTick .stop 1 7 none = some ((.idle, 0, 7), [.tickDisarm]) := by decide
theorem test_tick_idle :
    oneTick .idle 0 7 none =
      some ((.idle, 0xFFFFFFFF, 7), [.tickDisarm, .log (.protocolFault .tickWhileIdle)]) := by decide
theorem test_tick_unrecognized :
    oneTick (.unrecognized .code6) 15 0x81140000 none =
      some ((.idle, 14, 0x81140000), [.tickDisarm, .log (.protocolFault (.unrecognizedState .code6))]) := by decide

/-! ### The dispatcher (95 section 2.8) -/

/-- Receptions so far, errors, code, version, the backlight flag and what was put out, after one dispatch. -/
def dispatched (opcode : Byte) (raw received : Word) : Word × Word × Byte × BitVec 16 × Bool × List Effect :=
  (fun t => (t.totalReceived, t.totalError, t.identificationCode, t.firmwareVersion, t.backlightReady, t.trace))
    (dispatch opcode raw { State.reset with totalReceived := received })

theorem test_dispatch_released :
    dispatched 0x40 0xFFFFFFBD 0 = (1, 0, 0, 0, false, [.emit (.onTouch 0xFFF 0xFFF false)]) := by decide +kernel
theorem test_dispatch_one_coordinate :
    dispatched 0x40 0x0F00FF06 0 = (1, 0, 0, 0, false, [.emit (.onTouch 0x000 0xFFF false)]) := by decide +kernel
theorem test_dispatch_nibbles :
    dispatched 0x40 0xFFF0008D 0 = (1, 0, 0, 0, false, [.emit (.onTouch 0xFF0 0xF00 true)]) := by decide +kernel
theorem test_dispatch_identification :
    dispatched 0x60 0x2B10172F 0 = (1, 0, 0x2B, 1623, false, [.emit (.onIdentification 0x2B 1623)]) := by decide +kernel
theorem test_dispatch_not_available : dispatched 0x60 0xFF0E1F12 0 = (1, 0, 0, 0, false, []) := by decide +kernel
theorem test_dispatch_acknowledgment :
    dispatched 0x41 0x123456CE 0 = (1, 0, 0, 0, true, [.emit .onBacklightReady]) := by decide +kernel
/-- Warm-up: the reception that makes 100 is not counted as an error, the next one is, and a wrap starts over. -/
theorem test_dispatch_warmup :
    [0, 98, 99, 100, 149, 0xFFFFFFFF].map (fun n => (dispatched 0x40 0x123456CF n).2.1) = [0, 0, 0, 1, 1, 0] :=
  by decide +kernel

/-! ### init and the host's operations (95 sections 2.10, 2.11, P7) -/

theorem test_derive_reload :
    [deriveReload 12000000 0 9600, deriveReload 66666666 15 9600, deriveReload 50000000 255 9600,
      deriveReload 19200 1 9600, deriveReload 9600 0 9600, deriveReload 4294967295 0 9600] =
    [1249, 433, 19, 0, 0, 447391] := by decide
theorem test_init :
    after (step { State.reset with inbox := [.init 12000000 0 9600] }) = some ready := by decide
/-- 44 R221, R226: the CORE's own call derives for 9600. -/
theorem test_core_init :
    after (step { State.reset with inbox := [coreInit 12000000 0] }) = some ready := by decide +kernel
theorem test_init_fails :
    [Input.init 9599 0 9600, Input.init 0 0 9600, Input.init 12000000 0 0, Input.init 12000000 4294967295 9600].all
      (fun call =>
        (after (step { ready with inbox := [call] })).map (fun t => (t.configured, t.reloadValue, t.trace)) ==
        some (false, 1249, [.log .configError])) = true := by decide
theorem test_init_during_a_session_is_refused :
    refusal (step (midway .start 1 0 [.init 12000000 0 9600])) = some .initDuringSession := by decide
theorem test_shutdown_leaves_the_session :
    after (step (midway .turnaround 1 0 [.shutdown])) =
      some
        { midway .turnaround 1 0 [] with
          tickArmed := false
          trace := [.timerCancel, .tickDisarm] } := by decide
theorem test_reset_in_a_session :
    (after (step { midway .stop 1 0 [.reset] with protocolFault := true })).map
      (fun t => (t.state, t.configured, t.protocolFault, t.tickArmed)) = some (.idle, false, false, true) := by decide
/-- The levels of a response, presented most significant bit first. -/
def presents (raw : Word) (j : Nat) : Level :=
  levelOfBit (raw.getLsbD (31 - j))

/-- 45 R239 (95 section 2.12): bad, bad, good returns at the third exchange; bad, bad, bad fails after it. -/
theorem test_blocking_retries :
    ((blockingCall 0x40 (fun k => presents (if k < 2 then 0x123456CF else 0x123456CE))).exchanges.map
        (fun x => (x.sent, x.received)) =
      [(0x408A, 0x123456CF), (0x408A, 0x123456CF), (0x408A, 0x123456CE)]) ∧
    (blockingCall 0x40 (fun k => presents (if k < 2 then 0x123456CF else 0x123456CE))).accepted = some 0x123456CE ∧
    (blockingCall 0x40 (fun _ => presents 0x123456CF)).exchanges.length = 3 ∧
    (blockingCall 0x40 (fun _ => presents 0x123456CF)).accepted = none := by decide +kernel
/-- 45 R236 (95 section 2.12): the 16 bits `0100000010001010`, then the line high and released. -/
theorem test_blocking_request_bits :
    (blockingExchange 0x40 (presents 0x123456CE)).calls.take 18 =
      [0, 1, 0, 0, 0, 0, 0, 0, 1, 0, 0, 0, 1, 0, 1, 0].map (fun b => .lineDrive (if b = 1 then .high else .low))
        ++ [.lineDrive .high, .lineBecomeInput] := by decide +kernel
/-- A session program is the calls of one session (30 R102). -/
theorem test_session_program :
    (ProgramLine.session 0x40 0x12 0x34 0x56 0xCE).calls = .start 0x40 :: sessionTicks quiet 0x123456CE := by decide
/-- A placed word is the next request, on a CORE that is configured. -/
theorem test_placed_word_runs_first :
    (after (step (State.reset.withFetchWord 8 0x60))).map registers = some (.start, 1, 0x606A0000) := by decide

/-! ### Witnesses: for every statement with hypotheses, a state and operands that meet them, clause by clause -/

/-- `CrcIsLinearInSeedAndStream`: two streams of one length, the empty ones too. -/
theorem witness_streams_of_equal_length :
    ([0x12, 0x34, 0x56] : List Byte).length = ([0xAB, 0xCD, 0xEF] : List Byte).length ∧
      ([] : List Byte).length = ([] : List Byte).length := by decide

/-- `UpToThreeFlippedBitsAreDetected`: a valid response. -/
theorem witness_valid_response : frameValid 0x123456CE = true := by decide +kernel

/-- `DecodeInvertsEncodeOnFrames`: a well-formed instruction of every class, a frame that decodes. -/
theorem witness_decode_inverts_encode :
    [Instr.touch, .ident, .blprobe, .setbl 0, .setbl 127, .ack 0, .ack 0x7E].all Instr.wellFormed = true ∧
      decodeFrame 0xC003 = .ok (.setbl 64) := by decide

/-- `EveryOpcodeIsOneInstruction`: a well-formed instruction with a given opcode. -/
theorem witness_opcode_of_an_instruction :
    (Instr.ack 0x41).wellFormed = true ∧ encodeOpcode (.ack 0x41) = 0x41 := by decide

/-- `AckMatchListSelectsTheAckClass`: an opcode inside, and the three beside it outside. -/
theorem witness_ack_match_list :
    ackMatchList.any (fun r => r.accepts 0x41) = true ∧
      [0x40, 0x60, 0x7F, 0x80].all (fun o => !ackMatchList.any (fun r => r.accepts o)) = true := by decide

/-- `StepRunsTheDecodedRequest`: a start request at the head of the inbox. -/
theorem witness_start_request :
    ({ ready with inbox := [.start 0x40, .shutdown] } : State).inbox = .start 0x40 :: [.shutdown] := by decide

/-- `PlacedWordRunsNext`: a table word, and one with no bits. -/
theorem witness_placed_word :
    decodeTableWord 8 0x7F = some .blprobe ∧ decodeTableWord 0 0 = some (.ack 0) := by decide

/-- `WithoutACallNothingChanges`: the machine right after reset. -/
theorem witness_no_call : State.reset.inbox = [] := by decide

/-- `OnlyInitDuringASessionIsRefused`: both cases occur. -/
theorem witness_refusal_and_next :
    (after (step ready)).isSome = true ∧
      refusal (step (midway .stop 1 0 [.init 9600 0 9600])) = some .initDuringSession := by decide

/-- `InitDuringASessionIsRefused`: in every state but Idle. -/
theorem witness_init_during_a_session :
    (midway .start 1 0 [.init 9600 0 9600]).inbox = .init 9600 0 9600 :: [] ∧
      [SessionState.start, .request, .turnaround, .response, .stop, .unrecognized .code6, .unrecognized .code7].all
        (fun st => (midway st 1 0 []).state != .idle) = true := by decide

/-- `RequestsAreAcceptedWhenIdle`. -/
theorem witness_accepted : ready.configured = true ∧ ready.state = .idle := by decide

/-- `RequestsWhileBusyAreRejected`: in every state but Idle. -/
theorem witness_busy :
    [SessionState.start, .request, .turnaround, .response, .stop, .unrecognized .code6, .unrecognized .code7].all
      (fun st => (midway st 1 0 []).configured && (midway st 1 0 []).state != .idle) = true := by decide

/-- `RequestsBeforeInitAreRefused`. -/
theorem witness_not_configured : State.reset.configured = false := by decide

/-- `StartTickReloadsSixteenAndMovesToRequest`: countdown 1 and 2. -/
theorem witness_start_tick :
    (midway .start 1 0x408A0000 [.tick none]).inbox = .tick none :: [] ∧
      (midway .start 1 0x408A0000 [.tick none]).state = .start ∧
      (midway .start 1 0 []).tickCountdown - 1 = 0 ∧ (midway .start 2 0 []).tickCountdown - 1 ≠ 0 := by decide

/-- `RequestTickDrivesTheTopBitAndShifts`: countdown 16 and 1, a low and a high bit. -/
theorem witness_request_tick :
    (midway .request 16 0x408A0000 [.tick none]).inbox = .tick none :: [] ∧
      (midway .request 16 0x408A0000 [.tick none]).state = .request ∧
      Level.low = (if (midway .request 16 0x408A0000 []).shiftRegister.getLsbD 31 then .high else .low) ∧
      Level.high = (if (midway .request 1 0x80000000 []).shiftRegister.getLsbD 31 then .high else .low) ∧
      (midway .request 1 0x80000000 []).tickCountdown - 1 = 0 ∧
      (midway .request 16 0x408A0000 []).tickCountdown - 1 ≠ 0 := by decide +kernel

/-- `TurnaroundTickReleasesTheLineThenMovesToResponse`: countdown 2, 1 and 3, one for each clause. -/
theorem witness_turnaround_tick :
    (midway .turnaround 2 0 [.tick none]).inbox = .tick none :: [] ∧
      (midway .turnaround 2 0 [.tick none]).state = .turnaround ∧
      (midway .turnaround 2 0 []).tickCountdown - 1 = 1 ∧ (midway .turnaround 1 0 []).tickCountdown - 1 = 0 ∧
      (midway .turnaround 3 0 []).tickCountdown - 1 = 2 := by decide

/-- `ResponseTickShiftsOneSampleIn`: countdown 32 and 2, a level on the wire. -/
theorem witness_response_tick :
    (midway .response 32 0 [.tick (some .high)]).inbox = .tick (some .high) :: [] ∧
      (midway .response 32 0 [.tick (some .high)]).state = .response ∧
      (midway .response 32 0 []).tickCountdown - 1 ≠ 0 ∧ (midway .response 2 0 []).tickCountdown - 1 ≠ 0 ∧
      Level.high = (some Level.high).getD (Config.freeLevel ready.draws) := by decide

/-- `ResponseTickShiftsOneSampleIn`: no level on the wire. -/
theorem witness_response_tick_free :
    (midway .response 32 0 [.tick none]).inbox = .tick none :: [] ∧
      Config.freeLevel 0 = (none : Option Level).getD (Config.freeLevel (midway .response 32 0 [.tick none]).draws) :=
  ⟨rfl, rfl⟩

/-- `LastResponseTickReturnsTheLineAndDispatches`, and the second clause of `DispatcherLeavesTheSessionAlone`. -/
theorem witness_last_response_tick :
    (midway .response 1 0x091A2B67 [.tick (some .low)]).inbox = .tick (some .low) :: [] ∧
      (midway .response 1 0x091A2B67 [.tick (some .low)]).state = .response ∧
      (midway .response 1 0x091A2B67 [.tick (some .low)]).tickCountdown = 1 ∧
      Level.low = (some Level.low).getD (Config.freeLevel ready.draws) ∧
      (0x123456CE : Word) =
        ((midway .response 1 0x091A2B67 []).shiftRegister <<< 1) ||| (if Level.low = .high then 1 else 0) := by
  decide +kernel

/-- `StopTickReturnsToIdleAndDisarms`: countdown 1 and 2, and the two ticks of its second clause. -/
theorem witness_stop_tick :
    (midway .stop 2 0 [.tick none, .tick none]).inbox = .tick none :: .tick none :: [] ∧
      (midway .stop 2 0 [.tick none, .tick none]).state = .stop ∧ (midway .stop 2 0 []).tickCountdown = 2 ∧
    (midway .stop 1 0 [.tick none]).inbox = .tick none :: [] ∧ (midway .stop 1 0 [.tick none]).state = .stop ∧
      (midway .stop 1 0 []).tickCountdown - 1 = 0 ∧ (midway .stop 2 0 []).tickCountdown - 1 ≠ 0 := by decide

/-- `StrayTicksRaiseAProtocolFault`: Idle. -/
theorem witness_idle_tick :
    (midway .idle 0 0 [.tick none]).inbox = .tick none :: [] ∧
      ((midway .idle 0 0 [.tick none]).state = .idle ∧ ProtocolFaultKind.tickWhileIdle = .tickWhileIdle) := by decide

/-- `StrayTicksRaiseAProtocolFault`: an unrecognized state. -/
theorem witness_unrecognized_tick :
    (midway (.unrecognized .code7) 0 0 [.tick none]).inbox = .tick none :: [] ∧
      ∃ code, (midway (.unrecognized .code7) 0 0 [.tick none]).state = .unrecognized code ∧
        ProtocolFaultKind.unrecognizedState .code7 = .unrecognizedState code :=
  ⟨rfl, .code7, rfl, rfl⟩

/-- `FailedCheckIsAFrameError`, `FrameErrorSessionLeavesDeviceState`: an invalid response, in and past the warm-up. -/
theorem witness_invalid_response :
    frameValid 0x123456CF = false ∧ ¬ (100 : Word) < 99 + 1 ∧ (100 : Word) < 100 + 1 := by decide +kernel

/-- `ValidTouchResponseIsReported`: pressed and not pressed. -/
theorem witness_touch_response :
    (frameValid 0x123456CE = true ∧
        (0x134 : BitVec 12) = (0x123456CE : Word).extractLsb' 28 4 ++ (0x123456CE : Word).extractLsb' 16 8 ∧
        (0x256 : BitVec 12) = (0x123456CE : Word).extractLsb' 24 4 ++ (0x123456CE : Word).extractLsb' 8 8) ∧
      (frameValid 0xFFFFFFBD = true ∧
        (0xFFF : BitVec 12) = (0xFFFFFFBD : Word).extractLsb' 28 4 ++ (0xFFFFFFBD : Word).extractLsb' 16 8 ∧
        (0xFFF : BitVec 12) = (0xFFFFFFBD : Word).extractLsb' 24 4 ++ (0xFFFFFFBD : Word).extractLsb' 8 8) := by
  decide +kernel

/-- `ValidIdentificationIsStoredUnlessUnavailable`: an available code, and the code `0xFF`. -/
theorem witness_identification_response :
    (frameValid 0x2B10172F = true ∧ (0x2B : Byte) = (0x2B10172F : Word).extractLsb' 24 8 ∧
        (1623 : BitVec 16) = ((0x2B10172F : Word).extractLsb' 16 8).setWidth 16 * 100
          + ((0x2B10172F : Word).extractLsb' 8 8).setWidth 16) ∧
      (frameValid 0xFF0E1F12 = true ∧ (0xFF : Byte) = (0xFF0E1F12 : Word).extractLsb' 24 8 ∧
        (1431 : BitVec 16) = ((0xFF0E1F12 : Word).extractLsb' 16 8).setWidth 16 * 100
          + ((0xFF0E1F12 : Word).extractLsb' 8 8).setWidth 16) := by
  decide +kernel

/-- `ValidAcknowledgmentSetsBacklightReady`: opcodes beside the two that are decoded otherwise. -/
theorem witness_acknowledgment :
    frameValid 0x000000B2 = true ∧
      [0x00, 0x3F, 0x41, 0x5F, 0x61, 0x7F, 0x80, 0xFF].all (fun o : Byte => o != 0x40 && o != 0x60) = true :=
  by decide +kernel

/-- `FirmwareVersionNeverOverflows`: a response for each clause. -/
theorem witness_firmware :
    (byte2 0x00FFFF00 = 255 ∧ byte1 0x00FFFF00 = 255) ∧ (byte2 0x0017079B = 23 ∧ byte1 0x0017079B = 7) ∧
      99 < (byte1 0x00006400).toNat ∧ ¬ 99 < (byte1 0x00006300).toNat ∧
      (frameValid 0x0017079B = true ∧ byte3 0x0017079B ≠ 0xFF) := by decide +kernel

/-- `DispatchIsIdempotentOnDeviceState`: two dispatches that write. -/
theorem witness_two_dispatches :
    ∃ t u, t = dispatch 0x60 0x2B10172F ready ∧ u = dispatch 0x60 0x2B10172F t ∧ u.identificationCode = 0x2B :=
  ⟨_, _, rfl, rfl, by decide +kernel⟩

/-- `WarmupSuppressesTheFirstHundredReceptions`: property S7's 150 bad frames on fresh counters. -/
theorem witness_history :
    State.reset.totalReceived = 0 ∧ State.reset.totalError = 0 ∧
      (List.replicate 150 ((0x40, 0x123456CF) : Byte × Word)).length < 2 ^ 32 :=
  ⟨rfl, rfl, by rw [List.length_replicate]; decide⟩

/-- `InitStoresTheDerivedReload`: a clock rate exactly at the least that gives a value, and one above. -/
theorem witness_init :
    ({ ready with inbox := [.init 19200 1 9600] } : State).inbox = .init 19200 1 9600 :: [] ∧ ready.state = .idle ∧
      (9600 : Word) ≠ 0 ∧ (1 : Word) ≠ BitVec.allOnes 32 ∧
      ((1 : Word).toNat + 1) * (9600 : Word).toNat ≤ (19200 : Word).toNat ∧
      ((0 : Word).toNat + 1) * (9600 : Word).toNat ≤ (12000000 : Word).toNat := by decide +kernel

/-- `InitFailsWithoutAReload`: each cause, the clock rate one below the least that gives a value. -/
theorem witness_init_fails :
    ({ ready with inbox := [.init 9599 0 9600] } : State).inbox = .init 9599 0 9600 :: [] ∧ ready.state = .idle ∧
      (9599 : Word).toNat < ((0 : Word).toNat + 1) * (9600 : Word).toNat ∧ (0 : Word) = 0 ∧
      (0xFFFFFFFF : Word) = BitVec.allOnes 32 := by decide +kernel

/-- `ReloadIsOneTruncatingDivision`: the least input that derives a value. -/
theorem witness_reload : configurationFails 9600 0 9600 = false := by decide

/-- `ShutdownDisarmsAndChangesNothingElse`, `ResetGivesTheStatedValues`, `HandOverRestoresTheLine`. -/
theorem witness_host_calls :
    (midway .turnaround 1 0 [.shutdown]).inbox = .shutdown :: [] ∧
      (midway .turnaround 1 0 [.reset]).inbox = .reset :: [] ∧
      (midway .idle 0 0 [.handOver]).inbox = .handOver :: [] := by decide

/-- A CORE that is ready, with a start request, 53 ticks and one more call in its inbox. -/
def started : State :=
  { ready with inbox := .start 0x40 :: ((List.replicate 53 (none : Option Level)).map .tick ++ [.shutdown]) }

/-- `SessionTakesExactlyFiftyThreeTicks`, `RejectionLeavesTheRunningSessionIntact`. -/
theorem witness_fifty_three_ticks :
    started.configured = true ∧ started.state = .idle ∧ (List.replicate 53 (none : Option Level)).length = 53 ∧
      started.inbox = .start 0x40 :: ((List.replicate 53 (none : Option Level)).map .tick ++ [.shutdown]) :=
  ⟨rfl, rfl, rfl, rfl⟩

/-- A CORE that is ready, with the ticks of one session and one more call in its inbox. -/
def ticking (r : Word) : State :=
  { ready with inbox := sessionTicks quiet r ++ [.shutdown] }

/-- `SessionRunsItsCanonicalTrace`. -/
theorem witness_session :
    (ticking 0x123456CE).configured = true ∧ (ticking 0x123456CE).state = .idle ∧
      (ticking 0x123456CE).inbox = sessionTicks quiet 0x123456CE ++ [.shutdown] ∧
      (dispatch (encodeOpcode .touch) 0x123456CE (ticking 0x123456CE)).trace =
        (ticking 0x123456CE).trace ++ [.emit (.onTouch 0x134 0x256 true)] :=
  ⟨rfl, rfl, rfl, by decide +kernel⟩

/-- `TouchSessionReportsTheSample`, with `witness_touch_response`. -/
theorem witness_touch_session :
    (ticking 0x123456CE).configured = true ∧ (ticking 0x123456CE).state = .idle ∧
      (ticking 0x123456CE).inbox = sessionTicks quiet 0x123456CE ++ [.shutdown] ∧ frameValid 0x123456CE = true ∧
      (0x134 : BitVec 12) = (0x123456CE : Word).extractLsb' 28 4 ++ (0x123456CE : Word).extractLsb' 16 8 ∧
      (0x256 : BitVec 12) = (0x123456CE : Word).extractLsb' 24 4 ++ (0x123456CE : Word).extractLsb' 8 8 :=
  ⟨rfl, rfl, rfl, by decide +kernel, by decide +kernel, by decide +kernel⟩

/-- `IdentSessionStoresTheIdentification`: an available code. -/
theorem witness_ident_session :
    (ticking 0x2B10172F).configured = true ∧ (ticking 0x2B10172F).state = .idle ∧
      (ticking 0x2B10172F).inbox = sessionTicks quiet 0x2B10172F ++ [.shutdown] ∧ frameValid 0x2B10172F = true ∧
      (0x2B : Byte) = (0x2B10172F : Word).extractLsb' 24 8 ∧
      (1623 : BitVec 16) = ((0x2B10172F : Word).extractLsb' 16 8).setWidth 16 * 100
        + ((0x2B10172F : Word).extractLsb' 8 8).setWidth 16 :=
  ⟨rfl, rfl, rfl, by decide +kernel, by decide +kernel, by decide +kernel⟩

/-- `IdentSessionStoresTheIdentification`: the code `0xFF`. -/
theorem witness_ident_session_not_available :
    (ticking 0xFF0E1F12).configured = true ∧ (ticking 0xFF0E1F12).state = .idle ∧
      (ticking 0xFF0E1F12).inbox = sessionTicks quiet 0xFF0E1F12 ++ [.shutdown] ∧ frameValid 0xFF0E1F12 = true ∧
      (0xFF : Byte) = (0xFF0E1F12 : Word).extractLsb' 24 8 ∧
      (1431 : BitVec 16) = ((0xFF0E1F12 : Word).extractLsb' 16 8).setWidth 16 * 100
        + ((0xFF0E1F12 : Word).extractLsb' 8 8).setWidth 16 :=
  ⟨rfl, rfl, rfl, by decide +kernel, by decide +kernel, by decide +kernel⟩

/-- `AcknowledgedSessionsSetBacklightReady`: the three kinds of instruction, and the rest of the hypotheses. -/
theorem witness_acknowledged_session :
    (∃ level, Instr.setbl 64 = .setbl level) ∧
      (∃ n, Instr.ack 0x41 = .ack n ∧ (Instr.ack 0x41).wellFormed = true) ∧
      (ticking 0x000000B2).configured = true ∧ (ticking 0x000000B2).state = .idle ∧
      (ticking 0x000000B2).inbox = sessionTicks quiet 0x000000B2 ++ [.shutdown] ∧ frameValid 0x000000B2 = true :=
  ⟨⟨64, rfl⟩, ⟨0x41, rfl, by decide +kernel⟩, rfl, rfl, rfl, by decide +kernel⟩

/-- `FrameErrorSessionLeavesDeviceState`. -/
theorem witness_frame_error_session :
    (ticking 0x123456CF).configured = true ∧ (ticking 0x123456CF).state = .idle ∧
      (ticking 0x123456CF).inbox = sessionTicks quiet 0x123456CF ++ [.shutdown] ∧ frameValid 0x123456CF = false :=
  ⟨rfl, rfl, rfl, by decide +kernel⟩

/-- `StartAndTickCommuteExceptAtTheLastTick`: each state of the first clause, and the second clause. -/
theorem witness_simultaneous_calls :
    (midway .start 1 0 []).configured = true ∧ (midway .start 1 0 []).state = .start ∧
      (midway .request 16 0 []).state = .request ∧ (midway .turnaround 2 0 []).state = .turnaround ∧
      (midway .response 1 0 []).state = .response ∧
      ((midway .stop 2 0 []).state = .stop ∧ (midway .stop 2 0 []).tickCountdown = 2) ∧
      ((midway .stop 1 0 []).state = .stop ∧ (midway .stop 1 0 []).tickCountdown = 1) := by decide

/-- `EveryStepKeepsTheSessionInvariant`: a start, and a tick in the middle of a session. -/
theorem witness_session_invariant :
    SessionInv ready ∧ (after (step { ready with inbox := [.start 0x40] })).isSome = true ∧
      SessionInv (midway .request 16 (loadedShift 0x40) [.tick none]) ∧
      (after (step (midway .request 16 (loadedShift 0x40) [.tick none]))).isSome = true :=
  ⟨trivial, by decide +kernel, ⟨by decide, by decide, by decide +kernel⟩, by decide +kernel⟩

/-- `EveryStepKeepsTheDeviceInvariant`: the step that dispatches an identification. -/
theorem witness_device_invariant :
    DeviceInv { midway .response 1 0x15880B97 [.tick (some .high)] with requestOpcode := 0x60 } ∧
      (after (step { midway .response 1 0x15880B97 [.tick (some .high)] with requestOpcode := 0x60 })).map
        State.identificationCode = some 0x2B :=
  ⟨⟨by decide, by decide⟩, by decide +kernel⟩

/-- `StepsUnderContractKeepTheBoundaryInvariant`: a tick that finds the line in input mode. -/
theorem witness_boundary_invariant :
    BoundaryInv { midway .response 1 0 [.tick (some .low)] with lineMode := .input } ∧
      ContractKept { midway .response 1 0 [.tick (some .low)] with lineMode := .input } ∧
      (after (step { midway .response 1 0 [.tick (some .low)] with lineMode := .input })).isSome = true := by
  refine ⟨⟨fun _ => rfl, ?_, ?_, fun _ => ?_, fun code => ?_, rfl⟩, rfl, by decide +kernel⟩
  · intro h
    revert h
    decide
  · decide
  · decide
  · cases code <;> decide

/-- `StepsUnderContractKeepTheBoundaryInvariant`: a first start, with the line in output mode and high. -/
theorem witness_boundary_start :
    BoundaryInv { ready with inbox := [.start 0x40] } ∧ ContractKept { ready with inbox := [.start 0x40] } ∧
      (after (step { ready with inbox := [.start 0x40] })).isSome = true := by
  refine ⟨⟨?_, ?_, ?_, ?_, fun code => ?_, rfl⟩, fun _ => ⟨rfl, rfl⟩, by decide +kernel⟩
  · decide
  · decide
  · decide
  · decide
  · cases code <;> decide

/-- `EveryStepKeepsTheReloadOfTheBitRate`: a configured CORE that is initialized again, and one that starts. -/
theorem witness_reload_of_the_bit_rate :
    TimingInv { ready with inbox := [coreInit 19200 1] } ∧ BitRateKept { ready with inbox := [coreInit 19200 1] } ∧
      (after (step { ready with inbox := [coreInit 19200 1] })).map (fun t => (t.configured, t.reloadValue)) =
        some (true, 0) ∧
      ready.configured = true ∧ ready.state = .idle :=
  ⟨fun _ => ⟨12000000, 0, by decide +kernel, by decide +kernel⟩, rfl, by decide +kernel, rfl, rfl⟩

/-- `OnlyAnAcceptedStartLeavesIdle`: a step that leaves Idle. -/
theorem witness_leaving_idle :
    ({ ready with inbox := [.start 0x40] } : State).state = .idle ∧
      (after (step { ready with inbox := [.start 0x40] })).map (fun t => t.state != .idle) = some true := by
  decide +kernel

/-- `OnlyResetClearsTheStickyFlags`: both flags set, and a call that is not reset. -/
theorem witness_sticky_flags :
    nextCall { midway .idle 0 0 [.tick none] with backlightReady := true, protocolFault := true } ≠ some .reset ∧
      (after (step { midway .idle 0 0 [.tick none] with backlightReady := true, protocolFault := true })).map
        (fun t => t.backlightReady && t.protocolFault) = some true := by decide +kernel

/-- `StateIsWrittenOnlyByItsOwners`: steps that write something of each clause. -/
theorem witness_owners :
    (after (step { ready with inbox := [.start 0x40] })).map (fun t => t.state != ready.state) = some true ∧
      (after (step (midway .response 1 0x091A2B67 [.tick (some .low)]))).map (fun t => t.totalReceived != 0) =
        some true ∧
      (after (step { State.reset with inbox := [.init 12000000 0 9600] })).map State.configured = some true ∧
      (after (step (midway .start 1 0 [.start 0x60]))).map (fun t => t.totalBusy != 0) = some true := by decide +kernel

/-- `StateIsWrittenOnlyByItsOwners`: steps that write the opcode and the protocol fault. -/
theorem witness_owners_of_opcode_and_fault :
    (after (step { ready with inbox := [.start 0x40] })).map (fun t => t.requestOpcode != 0) = some true ∧
      (after (step (midway .idle 0 0 [.tick none]))).map State.protocolFault = some true := by decide +kernel

/-- `BlockingExchangeIsTheEnginesOnTheLine`: an exchange whose response is valid. -/
theorem witness_blocking_exchange :
    ∃ x, x = blockingExchange (encodeOpcode .touch) (presents 0x123456CE) ∧ frameValid x.received = true :=
  ⟨_, rfl, by decide +kernel⟩

end Sys2Proof.Tests
end

