-- ==== Sys2Proof/Proofs/FirmwareVersion.lean ====
section
/-!
The firmware version of an identification response (30 R99) as a natural number, and what a dispatch stores of it.
-/

namespace Sys2Proof.Proofs

open Sys2Proof.Machine
open Sys2Proof.Laws

/-- Two bytes cannot make the sum reach `2 ^ 16`, so the 16-bit sum is the exact one (30 R99). -/
theorem firmwareOf_toNat (raw : Word) :
    (firmwareOf raw).toNat = (byte2 raw).toNat * 100 + (byte1 raw).toNat := by
  have h2 : (byte2 raw).toNat < 256 := (byte2 raw).isLt
  have h1 : (byte1 raw).toNat < 256 := (byte1 raw).isLt
  unfold firmwareOf
  bv_omega

/-- The largest version is that of two bytes `255` (30 R99). -/
theorem firmwareOf_toNat_le (raw : Word) : (firmwareOf raw).toNat ≤ 25755 := by
  have h2 : (byte2 raw).toNat < 256 := (byte2 raw).isLt
  have h1 : (byte1 raw).toNat < 256 := (byte1 raw).isLt
  rw [firmwareOf_toNat]
  omega

/-- A response to the identification request whose code is available decodes to that code and the version
(42 R177, R179). -/
theorem decodeResponse_ident_available {raw : Word} (hc : byte3 raw ≠ identNotAvailable) :
    decodeResponse opIdent raw = .identification (byte3 raw) (firmwareOf raw) := by
  rcases decodeResponse_cases opIdent raw with ⟨ht, -⟩ | ⟨-, -, hd⟩ | ⟨-, hn, -⟩ | ⟨-, hi, -⟩
  · exact absurd ht (by decide)
  · exact hd
  · exact absurd hn hc
  · exact absurd rfl hi

/-- A valid identification with an available code stores the version its bytes make (42 R179). -/
theorem dispatch_ident_firmwareVersion {raw : Word} (hv : frameValid raw = true)
    (hc : byte3 raw ≠ identNotAvailable) (s : State) :
    (dispatch opIdent raw s).firmwareVersion = firmwareOf raw := by
  rw [dispatch_valid hv, decodeResponse_ident_available hc]
  rfl

/-- Settles O28: every clause is the exact value `firmwareOf_toNat` read at its bytes. -/
theorem firmwareVersionNeverOverflows : Obligations.FirmwareVersionNeverOverflows := by
  unfold Obligations.FirmwareVersionNeverOverflows
  refine ⟨firmwareOf_toNat, firmwareOf_toNat_le, ?largest, ?stated, ?carry, ?stored⟩
  case largest =>
    intro raw h2 h1
    rw [firmwareOf_toNat, h2, h1]
    rfl
  case stated =>
    intro raw h2 h1
    rw [firmwareOf_toNat, h2, h1]
    rfl
  case carry =>
    intro raw _
    rw [firmwareOf_toNat]
    omega
  case stored =>
    intro raw s hv hc
    rw [← firmwareOf_toNat]
    exact congrArg BitVec.toNat (dispatch_ident_firmwareVersion hv hc s)

end Sys2Proof.Proofs
end

