-- ==== Sys2Proof/Proofs/CrcForms.lean ====
section
/-!
The two realizations of the CRC8 Engine (40 R112, R114) give one value: byte by byte, the eight bit steps of the serial
form are the one table read of the table form.
-/

namespace Sys2Proof.Proofs

/-- The table form absorbs the first byte by one table read (40 R114). -/
theorem crc8Table_cons (init b : Byte) (stream : List Byte) :
    crc8Table init (b :: stream) = crc8Table (crcRom (init ^^^ b)) stream := rfl

/-- The bit-serial form absorbs the first byte by eight bit steps (40 R112). -/
theorem crc8Serial_cons (init b : Byte) (stream : List Byte) :
    crc8Serial init (b :: stream) = crc8Serial (crcByteSerial init b) stream := rfl

/-- By induction on the stream, for every seed at once: after the first byte both forms hold the same register, by
`crcByteSerial_eq_crcRom`, and that register is the seed of the rest. -/
theorem crc8Table_eq_crc8Serial (init : Byte) (stream : List Byte) :
    crc8Table init stream = crc8Serial init stream := by
  induction stream generalizing init with
  | nil => rfl
  | cons b rest ih =>
    calc crc8Table init (b :: rest)
      _ = crc8Table (crcRom (init ^^^ b)) rest := crc8Table_cons init b rest
      _ = crc8Serial (crcRom (init ^^^ b)) rest := ih _
      _ = crc8Serial (crcByteSerial init b) rest := by rw [crcByteSerial_eq_crcRom]
      _ = crc8Serial init (b :: rest) := (crc8Serial_cons init b rest).symm

/-- Settles O1: the two forms agree on every stream, by induction on it. -/
theorem crcTableFormEqualsSerialForm : Obligations.CrcTableFormEqualsSerialForm :=
  crc8Table_eq_crc8Serial

end Sys2Proof.Proofs
end

