-- ==== Sys2Proof/Proofs/StartStopTicks.lean ====
section
/-!
The ticks of the two phases that move no bit: Start (41 R135) and Stop (41 R139), as steps of the machine.
-/

namespace Sys2Proof.Proofs

open Sys2Proof.Machine

/-- A step whose oldest call is a tick is `on_tick` on the state without that call (41 R134). -/
theorem step_tick {s : State} {w : Option Level} {rest : List Input} (hi : s.inbox = .tick w :: rest) :
    step s = .next (onTick w { s with inbox := rest }) :=
  step_cons hi

/-- Settles O17: the step is the tick, and `onTick_start` says what a tick does in Start. -/
theorem startTickReloadsSixteenAndMovesToRequest : Obligations.StartTickReloadsSixteenAndMovesToRequest := by
  intro s w rest hi hs
  have hs' : ({ s with inbox := rest } : State).state = .start := hs
  rw [step_tick hi, onTick_start hs']

/-- A run of one step is that step. -/
theorem run_one {s t : State} (h : step s = .next t) : core.run 1 s = .next t :=
  run_succ h 0

/-- One Stop tick, whatever the countdown (41 R139). -/
theorem step_tick_stop {s : State} {w : Option Level} {rest : List Input} (hi : s.inbox = .tick w :: rest)
    (hs : s.state = .stop) :
    step s = .next
      (if s.tickCountdown - 1 = 0 then
        { s with
          inbox := rest, tickCountdown := 0, state := .idle, tickArmed := false
          trace := s.trace ++ [.tickDisarm] }
       else { s with inbox := rest, tickCountdown := s.tickCountdown - 1 }) := by
  have hs' : ({ s with inbox := rest } : State).state = .stop := hs
  rw [step_tick hi, onTick_stop hs']

/-- From countdown 2 a Stop tick only counts (41 R139). -/
theorem step_tick_stop_two {s : State} {w : Option Level} {rest : List Input} (hi : s.inbox = .tick w :: rest)
    (hs : s.state = .stop) (hc : s.tickCountdown = 2) :
    step s = .next { s with inbox := rest, tickCountdown := 1 } := by
  rw [step_tick_stop hi hs, hc]
  rfl

/-- From countdown 1 a Stop tick ends the session (41 R139). -/
theorem step_tick_stop_one {s : State} {w : Option Level} {rest : List Input} (hi : s.inbox = .tick w :: rest)
    (hs : s.state = .stop) (hc : s.tickCountdown = 1) :
    step s = .next
      { s with
        inbox := rest, tickCountdown := 0, state := .idle, tickArmed := false
        trace := s.trace ++ [.tickDisarm] } := by
  rw [step_tick_stop hi hs, hc]
  rfl

/-- Settles O22: one Stop tick is `step_tick_stop`; the trailing delay is a tick that counts and one that ends the
session, each a step of the run. -/
theorem stopTickReturnsToIdleAndDisarms : Obligations.StopTickReturnsToIdleAndDisarms := by
  refine ⟨fun _ _ _ => step_tick_stop, ?delay⟩
  case delay =>
    intro s w v rest hi hs hc
    have first : step s = .next { s with inbox := .tick v :: rest, tickCountdown := 1 } :=
      step_tick_stop_two hi hs hc
    have last := step_tick_stop_one
      (s := { s with inbox := .tick v :: rest, tickCountdown := 1 }) rfl hs rfl
    exact ⟨run_one first, (run_succ first 1).trans (run_one last)⟩

end Sys2Proof.Proofs
end

