-- ==== Sys2Proof/Proofs/DispatcherFrame.lean ====
section
/-!
What the dispatcher leaves alone (42 R184): the Session registers, the line, the tick source and the inbox; and the
three forms of what it puts out (42 R182).
-/

namespace Sys2Proof.Proofs

open Sys2Proof.Machine
open Sys2Proof.Safety

section Frame
variable (opcode : Byte) (raw : Word) (s : State)

@[simp] theorem dispatch_state : (dispatch opcode raw s).state = s.state := by
  rw [dispatch_eq]

@[simp] theorem dispatch_tickCountdown : (dispatch opcode raw s).tickCountdown = s.tickCountdown := by
  rw [dispatch_eq]

@[simp] theorem dispatch_shiftRegister : (dispatch opcode raw s).shiftRegister = s.shiftRegister := by
  rw [dispatch_eq]

@[simp] theorem dispatch_requestOpcode : (dispatch opcode raw s).requestOpcode = s.requestOpcode := by
  rw [dispatch_eq]

@[simp] theorem dispatch_lineMode : (dispatch opcode raw s).lineMode = s.lineMode := by
  rw [dispatch_eq]

@[simp] theorem dispatch_lineLatch : (dispatch opcode raw s).lineLatch = s.lineLatch := by
  rw [dispatch_eq]

@[simp] theorem dispatch_tickArmed : (dispatch opcode raw s).tickArmed = s.tickArmed := by
  rw [dispatch_eq]

@[simp] theorem dispatch_inbox : (dispatch opcode raw s).inbox = s.inbox := by
  rw [dispatch_eq]

@[simp] theorem dispatch_trace : (dispatch opcode raw s).trace = s.trace ++ completionEffects opcode raw := by
  rw [dispatch_eq]

end Frame

/-- A dispatch puts out nothing (an identification that is not available), one event (any other valid response), or a
log and then an event (a frame error) (42 R182). -/
theorem completionEffects_cases (opcode : Byte) (raw : Word) :
    completionEffects opcode raw = [] ∨
    (∃ event, completionEffects opcode raw = [.emit event]) ∨
    (∃ diagnostic event, completionEffects opcode raw = [.log diagnostic, .emit event]) := by
  unfold completionEffects
  cases frameValid raw with
  | false => exact .inr (.inr ⟨_, _, rfl⟩)
  | true =>
    cases decodeResponse opcode raw with
    | notAvailable => exact .inl rfl
    | touch x y p => exact .inr (.inl ⟨_, rfl⟩)
    | identification code fw => exact .inr (.inl ⟨_, rfl⟩)
    | acknowledgment => exact .inr (.inl ⟨_, rfl⟩)

/-- None of the three forms holds a line call or a tick-source call, or two of a kind (42 R184). -/
theorem completionEffects_logs_and_events (opcode : Byte) (raw : Word) :
    (completionEffects opcode raw).all (fun e => isLog e || isEvent e) = true ∧
      (completionEffects opcode raw).countP isLog ≤ 1 ∧ (completionEffects opcode raw).countP isEvent ≤ 1 := by
  rcases completionEffects_cases opcode raw with h | ⟨event, h⟩ | ⟨diagnostic, event, h⟩ <;>
    simp [h, isLog, isEvent, List.countP_cons]

/-- From countdown 1 a Response tick ends in Stop with countdown 2: both are set before the dispatcher runs (41 R138),
and the dispatcher keeps them. -/
theorem onTick_response_one {s : State} (hs : s.state = .response) (hc : s.tickCountdown = 1) (w : Option Level) :
    (onTick w s).state = .stop ∧ (onTick w s).tickCountdown = 2 := by
  have hdone : s.tickCountdown - 1 = 0 := by rw [hc]; rfl
  rw [onTick_response hs, if_pos hdone]
  exact ⟨dispatch_state _ _ _, dispatch_tickCountdown _ _ _⟩

/-- Settles O29: each register by its frame lemma, the trace by what `completionEffects` can be, and the tick that runs
the dispatcher by `onTick_response_one`. -/
theorem dispatcherLeavesTheSessionAlone : Obligations.DispatcherLeavesTheSessionAlone := by
  refine ⟨fun opcode raw s => ?frame, fun s w rest hi hs hc => ?tick⟩
  case frame =>
    exact ⟨dispatch_state _ _ _, dispatch_tickCountdown _ _ _, dispatch_shiftRegister _ _ _,
      dispatch_requestOpcode _ _ _, dispatch_lineMode _ _ _, dispatch_lineLatch _ _ _, dispatch_tickArmed _ _ _,
      dispatch_inbox _ _ _, completionEffects opcode raw, dispatch_trace _ _ _,
      completionEffects_logs_and_events opcode raw⟩
  case tick =>
    exact ⟨_, step_tick hi, onTick_response_one (s := { s with inbox := rest }) hs hc w⟩

end Sys2Proof.Proofs
end

