-- ==== Sys2Proof/Proofs/Refusals.lean ====
section
/-!
Which steps stop the machine: none but the host's `init` while a session is active (60 R255, 44 R222, 93 U9).
-/

namespace Sys2Proof.Proofs

open Sys2Proof.Machine

/-- `init` while a session is active is refused, whatever its parameters (44 R222, 93 U9). -/
theorem init_refused {s : State} (hs : s.state ≠ .idle) (ref pre rate : Word) :
    init ref pre rate s = .refused .initDuringSession := by
  rw [init, if_pos (busy_eq_true.mpr hs)]

/-- `init` in Idle always answers a next state: the configuration error, or the timing it derives (44 R226). -/
theorem init_idle_next {s : State} (hs : s.state = .idle) (ref pre rate : Word) :
    ∃ t, init ref pre rate s = .next t := by
  have hb : ¬ busy s = true := fun h => busy_eq_true.mp h hs
  rw [init, if_neg hb]
  cases configurationFails ref pre rate with
  | true => exact ⟨_, rfl⟩
  | false => exact ⟨_, rfl⟩

/-- Every call answers a next state, but for `init` during a session: the agents' other calls have a total meaning on
every state (60 R255). -/
theorem deliver_next_or_refused (call : Input) (s : State) :
    (∃ t, deliver call s = .next t) ∨
      (deliver call s = .refused .initDuringSession ∧ s.state ≠ .idle ∧ ∃ ref pre rate, call = .init ref pre rate) := by
  cases call with
  | init ref pre rate =>
    by_cases hs : s.state = .idle
    · exact .inl (init_idle_next hs ref pre rate)
    · exact .inr ⟨init_refused hs ref pre rate, hs, ref, pre, rate, rfl⟩
  | start opcode => exact .inl ⟨_, deliver_start opcode s⟩
  | tick wire => exact .inl ⟨_, rfl⟩
  | shutdown => exact .inl ⟨_, rfl⟩
  | reset => exact .inl ⟨_, rfl⟩
  | handOver => exact .inl ⟨_, rfl⟩

/-- Settles O13: with no call the CORE waits; otherwise the step is the oldest call, on a state that differs in the
inbox alone, and `deliver_next_or_refused` says what that call answers. -/
theorem onlyInitDuringASessionIsRefused : Obligations.OnlyInitDuringASessionIsRefused := by
  intro s
  cases hi : s.inbox with
  | nil => exact .inl ⟨s, step_nil hi⟩
  | cons call rest =>
    rw [step_cons hi]
    rcases deliver_next_or_refused call { s with inbox := rest } with hnext | ⟨hrefused, hs, ref, pre, rate, rfl⟩
    · exact .inl hnext
    · exact .inr ⟨hrefused, hs, ref, pre, rate, rest, rfl⟩

end Sys2Proof.Proofs
end

section
/-!
The request opcode space (30 sections 1, 2 and 5): the decoder and the encoder are inverse to each other on well-formed
instructions, for opcodes and for the 16-bit request frames.
-/

namespace Sys2Proof.Proofs

open Sys2Proof.Machine
open Sys2Proof.Laws

/-! ### Opcodes -/

/-- Whatever the opcode, the instruction it stands for is one of the table: a low opcode that is one of the three exact
ones never reaches the `ACK` row (30 R93, R94). -/
theorem decodeOpcode_wellFormed : ∀ opcode : Byte, (decodeOpcode opcode).wellFormed = true := by
  decide +kernel

/-- Past the three exact rows, the `SETBL` row decides (30 R94). -/
theorem decodeOpcode_of_no_exact_row {opcode : Byte} (ht : Instr.touch.row.accepts opcode = false)
    (hi : Instr.ident.row.accepts opcode = false) (hp : Instr.blprobe.row.accepts opcode = false) :
    decodeOpcode opcode =
      if (Instr.setbl 0).row.accepts opcode then .setbl (opcode.extractLsb' 0 7)
      else .ack (opcode.extractLsb' 0 7) := by
  simp only [decodeOpcode, ht, hi, hp, Bool.false_eq_true, if_false]

/-- A `SETBL` opcode is read back: it is in its own row and in no exact one (30 R91). -/
theorem decodeOpcode_setbl (level : BitVec 7) : decodeOpcode (encodeOpcode (.setbl level)) = .setbl level := by
  obtain ⟨hrow, ht, hi, hp⟩ := EncodingMatchesRow.setbl level rfl
  have hsetbl : (Instr.setbl 0).row.accepts (encodeOpcode (.setbl level)) = true := hrow
  rw [decodeOpcode_of_no_exact_row (ht.resolve_left nofun) (hi.resolve_left nofun) (hp.resolve_left nofun),
    if_pos hsetbl]
  exact congrArg Instr.setbl BitVec.extractLsb'_append_eq_right

/-- The `SETBL` row accepts no opcode whose bit 7 is clear (30 R91). -/
theorem setbl_row_rejects_ack : ∀ n : BitVec 7, (Instr.setbl 0).row.accepts (encodeOpcode (.ack n)) = false := by
  decide +kernel

/-- A well-formed `ACK` opcode is read back: it is in none of the four rows tried before its own (30 R93, R94). -/
theorem decodeOpcode_ack {n : BitVec 7} (hw : (Instr.ack n).wellFormed = true) :
    decodeOpcode (encodeOpcode (.ack n)) = .ack n := by
  obtain ⟨-, ht, hi, hp⟩ := EncodingMatchesRow.ack n hw
  rw [decodeOpcode_of_no_exact_row (ht.resolve_left nofun) (hi.resolve_left nofun) (hp.resolve_left nofun),
    if_neg (Bool.eq_false_iff.mp (setbl_row_rejects_ack n))]
  exact congrArg Instr.ack BitVec.extractLsb'_append_eq_right

/-- Decoding inverts encoding on the instructions of the table (30 R88). -/
theorem decodeOpcode_encodeOpcode {i : Instr} (hw : i.wellFormed = true) : decodeOpcode (encodeOpcode i) = i := by
  cases i with
  | touch => rfl
  | ident => rfl
  | blprobe => rfl
  | setbl level => exact decodeOpcode_setbl level
  | ack n => exact decodeOpcode_ack hw

/-- Settles O7: encoding inverts decoding on every opcode, and the other inverse makes the instruction unique. -/
theorem everyOpcodeIsOneInstruction : Obligations.EveryOpcodeIsOneInstruction := by
  intro opcode
  refine ⟨decodeOpcode_wellFormed opcode, encodeOpcode_decodeOpcode opcode, fun i hw he => ?_⟩
  rw [← he, decodeOpcode_encodeOpcode hw]

/-! ### Frames -/

/-- A frame decodes exactly when its low byte is the check byte of its high byte, which is then the opcode
(30 R81, R105). -/
theorem decodeFrame_eq_ok {frame : BitVec 16} {i : Instr} :
    decodeFrame frame = .ok i ↔
      checkByte (frame.extractLsb' 8 8) = frame.extractLsb' 0 8 ∧ decodeOpcode (frame.extractLsb' 8 8) = i := by
  unfold decodeFrame
  split
  · next hc => simp [hc]
  · next hc => simp [hc]

/-- The high byte of an instruction's frame is its opcode (30 R81). -/
theorem encodeFrame_high (i : Instr) : (encodeFrame i).extractLsb' 8 8 = encodeOpcode i :=
  BitVec.extractLsb'_append_eq_left

/-- The low byte of an instruction's frame is its check byte (30 R81). -/
theorem encodeFrame_low (i : Instr) : (encodeFrame i).extractLsb' 0 8 = checkByte (encodeOpcode i) :=
  BitVec.extractLsb'_append_eq_right

/-- A frame is its two bytes, one after the other. -/
theorem frame_eq_append (frame : BitVec 16) : frame.extractLsb' 8 8 ++ frame.extractLsb' 0 8 = frame :=
  (BitVec.extractLsb'_append_extractLsb'_eq_extractLsb' rfl).trans BitVec.extractLsb'_eq_self

/-- Settles O6: a frame is an opcode with its check byte, so both directions come from the two inverses on opcodes. -/
theorem decodeInvertsEncodeOnFrames : Obligations.DecodeInvertsEncodeOnFrames := by
  refine ⟨fun i hw => ?decode_encode, fun frame i hd => ?encode_decode⟩
  case decode_encode =>
    rw [decodeFrame_eq_ok, encodeFrame_high, encodeFrame_low]
    exact ⟨rfl, decodeOpcode_encodeOpcode hw⟩
  case encode_decode =>
    obtain ⟨hcheck, rfl⟩ := decodeFrame_eq_ok.mp hd
    refine ⟨decodeOpcode_wellFormed _, ?_⟩
    rw [encodeFrame, encodeOpcode_decodeOpcode, hcheck, frame_eq_append]

/-! ### The match list of `ACK`, and words written out -/

/-- The 14 patterns accept exactly the opcodes that reach the last row of the decoder (30 R105). -/
theorem ackMatchList_accepts : ∀ opcode : Byte,
    ackMatchList.any (fun r => r.accepts opcode) = true ↔ decodeOpcode opcode = .ack (opcode.extractLsb' 0 7) := by
  decide +kernel

/-- The operand of an `ACK` is the low seven bits of its opcode (30 R93). -/
theorem operand_of_decodeOpcode_ack {opcode : Byte} {n : BitVec 7} (h : decodeOpcode opcode = .ack n) :
    opcode.extractLsb' 0 7 = n := by
  rw [← encodeOpcode_decodeOpcode opcode, h]
  exact BitVec.extractLsb'_append_eq_right

/-- Settles O8: `ackMatchList_accepts`, with the operand left open. -/
theorem ackMatchListSelectsTheAckClass : Obligations.AckMatchListSelectsTheAckClass := by
  intro opcode
  rw [ackMatchList_accepts]
  refine ⟨fun h => ⟨_, h⟩, fun ⟨n, h⟩ => ?_⟩
  rw [operand_of_decodeOpcode_ack h, h]

/-- Settles O9: each word is evaluated. -/
theorem sampleWordsDecode : Obligations.SampleWordsDecode := by
  unfold Obligations.SampleWordsDecode
  decide +kernel

end Sys2Proof.Proofs
end

section
/-!
The step and the requests (41 section 2): which call a step performs, and the three ways a start request is answered.
-/

namespace Sys2Proof.Proofs

open Sys2Proof.Machine

/-! ### The step -/

/-- Settles O10: the step performs the oldest call, and a start request runs the instruction of its opcode. -/
theorem stepRunsTheDecodedRequest : Obligations.StepRunsTheDecodedRequest :=
  fun _ _ _ hi => step_cons hi

/-- Settles O12: with no call there is nothing to fetch. -/
theorem withoutACallNothingChanges : Obligations.WithoutACallNothingChanges :=
  fun _ hi => step_nil hi

/-- A table word has at least one byte. -/
theorem tableBytes_ne_nil (nbits w : Nat) : tableBytes nbits w ≠ [] := by
  intro h
  have hlen := congrArg List.length h
  simp [tableBytes] at hlen

/-- A table word decodes to the instruction of its first byte (assumption log 19). -/
theorem decodeTableWord_eq (nbits w : Nat) :
    decodeTableWord nbits w = some (decodeOpcode (tableOpcode nbits w)) := by
  unfold decodeTableWord tableOpcode
  cases hb : tableBytes nbits w with
  | nil => exact absurd hb (tableBytes_ne_nil nbits w)
  | cons opcode rest => rfl

/-- Settles O11: the placed request is the oldest call, and its opcode is the byte the decoder reads. -/
theorem placedWordRunsNext : Obligations.PlacedWordRunsNext := by
  intro s nbits w i hd
  rw [decodeTableWord_eq, Option.some.injEq] at hd
  subst hd
  exact step_cons (s := s.withFetchWord nbits w) rfl

/-- Settles O56: `init` during a session is refused, whatever its parameters. -/
theorem initDuringASessionIsRefused : Obligations.InitDuringASessionIsRefused := by
  intro s ref pre rate rest hi hs
  rw [step_cons hi]
  exact init_refused (s := { s with inbox := rest }) hs ref pre rate

/-! ### Requests -/

/-- A start request before a successful `init` is refused before the state is looked at (41 R133). -/
theorem startSession_unconfigured {s : State} (hc : s.configured = false) (opcode : Byte) :
    startSession opcode s = rejectUnconfigured opcode s := by
  simp [startSession, hc]

/-- Settles O14: in Idle the request is accepted, and its frame is the shift register's upper half. -/
theorem requestsAreAcceptedWhenIdle : Obligations.RequestsAreAcceptedWhenIdle := by
  intro i s hc hs
  rw [exec_eq, startSession_idle hc hs, acceptSession_eq]
  rfl

/-- Settles O15: in every other state the request is rejected. -/
theorem requestsWhileBusyAreRejected : Obligations.RequestsWhileBusyAreRejected := by
  intro i s hc hs
  rw [exec_eq, startSession_busy hc hs, rejectBusy_eq]

/-- Settles O16: without a configuration the request is refused. -/
theorem requestsBeforeInitAreRefused : Obligations.RequestsBeforeInitAreRefused := by
  intro i s hc
  rw [exec_eq, startSession_unconfigured hc, rejectUnconfigured_eq]

end Sys2Proof.Proofs
end

section
/-!
The ticks that move bits (41 section 3) and the defensive ones, as steps of the machine.
-/

namespace Sys2Proof.Proofs

open Sys2Proof.Machine

/-- The sample enters at bit 0, `high` as 1 (41 R138, D2). -/
theorem shiftIn_bitOfLevel (r : Word) (level : Level) :
    shiftIn r (bitOfLevel level) = (r <<< 1) ||| (if level = .high then 1 else 0) := by
  cases level <;> rfl

/-- Settles O18: the step is the tick, and `onTick_request` says what a tick does in Request. -/
theorem requestTickDrivesTheTopBitAndShifts : Obligations.RequestTickDrivesTheTopBitAndShifts := by
  intro s w rest bit hi hs hbit
  subst hbit
  rw [step_tick hi, onTick_request (s := { s with inbox := rest }) hs]
  rfl

/-- Settles O19: the step is the tick, and `onTick_turnaround` says what a tick does in Turnaround. -/
theorem turnaroundTickReleasesTheLineThenMovesToResponse :
    Obligations.TurnaroundTickReleasesTheLineThenMovesToResponse := by
  intro s w rest hi hs
  rw [step_tick hi, onTick_turnaround (s := { s with inbox := rest }) hs]
  split
  · next hc => simp only [hc]
  · rfl

/-- Settles O20: a Response tick that is not the last only receives a bit. -/
theorem responseTickShiftsOneSampleIn : Obligations.ResponseTickShiftsOneSampleIn := by
  intro s w rest level hi hs hc hl
  subst hl
  rw [step_tick hi, onTick_response (s := { s with inbox := rest }) hs, if_neg hc, ← shiftIn_bitOfLevel]
  rfl

/-- Settles O21: the last Response tick receives a bit, then returns the line and dispatches the word. -/
theorem lastResponseTickReturnsTheLineAndDispatches : Obligations.LastResponseTickReturnsTheLineAndDispatches := by
  intro s w rest level raw hi hs hc hl hr
  have hdone : s.tickCountdown - 1 = 0 := by rw [hc]; rfl
  rw [← shiftIn_bitOfLevel] at hr
  subst hr hl
  rw [step_tick hi, onTick_response (s := { s with inbox := rest }) hs, if_pos hdone]
  rfl

/-- Settles O23: a tick in Idle and one in an unrecognized state raise the same condition, with its kind. -/
theorem strayTicksRaiseAProtocolFault : Obligations.StrayTicksRaiseAProtocolFault := by
  intro s w rest kind hi hk
  rw [step_tick hi]
  rcases hk with ⟨hs, rfl⟩ | ⟨code, hs, rfl⟩
  · rw [onTick_idle (s := { s with inbox := rest }) hs]
  · rw [onTick_unrecognized (s := { s with inbox := rest }) hs]

end Sys2Proof.Proofs
end

section
/-!
What the host does besides `init`: shutdown (60 R275), the reset event (10 R52) and the hand-over (70 R293, R294).
-/

namespace Sys2Proof.Proofs

open Sys2Proof.Machine

/-- Settles O35: the step is `shutdown`, two calls of collaborators. -/
theorem shutdownDisarmsAndChangesNothingElse : Obligations.ShutdownDisarmsAndChangesNothingElse := by
  intro s rest hi
  rw [step_cons hi]
  simp [deliver, shutdown, tickDisarm, observe]

/-- Settles O36: the step is `resetCore`, which writes the stated values and leaves what lies outside the CORE. -/
theorem resetGivesTheStatedValues : Obligations.ResetGivesTheStatedValues := by
  intro s rest hi
  refine ⟨resetCore { s with inbox := rest }, step_cons hi, ?values⟩
  case values => exact ⟨rfl, rfl, rfl, rfl, rfl, rfl, rfl, rfl, rfl, rfl, rfl, rfl, rfl, rfl⟩

/-- Settles O37: the values `State.reset` is written with. -/
theorem freshMachineHasTheResetValues : Obligations.FreshMachineHasTheResetValues :=
  ⟨rfl, rfl, rfl, rfl, rfl, rfl, rfl, rfl, rfl, rfl, rfl, rfl⟩

/-- Settles O38: the step is `handOver`. -/
theorem handOverRestoresTheLine : Obligations.HandOverRestoresTheLine :=
  fun _ _ hi => step_cons hi

end Sys2Proof.Proofs
end

section
/-!
What every step keeps of a session (41 R155): the pairs of state and countdown, and the contents of the shift register.
First what `SessionInv` says in each state, the countdown as a natural number, then one lemma per phase for the tick.
-/

namespace Sys2Proof.Proofs

open Sys2Proof.Machine
open Sys2Proof.Safety

/-! ### The countdown -/

theorem countdown_sub_one_eq_zero {c : Word} : c - 1 = 0 ↔ c = 1 :=
  sub_eq_zero

theorem countdown_sub_one_eq_one {c : Word} : c - 1 = 1 ↔ c = 2 :=
  sub_eq_iff_eq_add

/-- A countdown of at least 1 is decremented without a borrow. -/
theorem countdown_sub_one_toNat {c : Word} {n : Nat} (hc : c.toNat = n) (hn : 1 ≤ n) : (c - 1).toNat = n - 1 := by
  bv_omega

theorem countdown_done_iff {c : Word} {n : Nat} (hc : c.toNat = n) : c - 1 = 0 ↔ n = 1 := by
  bv_omega

/-! ### The invariant, state by state -/

section Phases
variable {s : State}

theorem sessionInv_idle (hs : s.state = .idle) : SessionInv s := by
  simp only [SessionInv, hs]

theorem sessionInv_start (hs : s.state = .start) :
    SessionInv s ↔ s.tickCountdown = 1 ∧ s.shiftRegister = loadedShift s.requestOpcode := by
  simp only [SessionInv, hs]

theorem sessionInv_request (hs : s.state = .request) :
    SessionInv s ↔ ∃ n, s.tickCountdown.toNat = n ∧ 1 ≤ n ∧ n ≤ 16 ∧
      s.shiftRegister = loadedShift s.requestOpcode <<< (16 - n) := by
  simp only [SessionInv, hs, exists_eq_left']

theorem sessionInv_turnaround (hs : s.state = .turnaround) :
    SessionInv s ↔ ∃ n, s.tickCountdown.toNat = n ∧ 1 ≤ n ∧ n ≤ 2 ∧ s.shiftRegister = 0 := by
  simp only [SessionInv, hs, exists_eq_left']

theorem sessionInv_response (hs : s.state = .response) :
    SessionInv s ↔ ∃ n, s.tickCountdown.toNat = n ∧ 1 ≤ n ∧ n ≤ 32 ∧ s.shiftRegister.toNat < 2 ^ (32 - n) := by
  simp only [SessionInv, hs, exists_eq_left']

theorem sessionInv_stop (hs : s.state = .stop) :
    SessionInv s ↔ ∃ n, s.tickCountdown.toNat = n ∧ 1 ≤ n ∧ n ≤ 2 := by
  simp only [SessionInv, hs, exists_eq_left']

theorem not_sessionInv_unrecognized {code : BadCode} (hs : s.state = .unrecognized code) : ¬ SessionInv s := by
  simp only [SessionInv, hs, not_false_eq_true]

end Phases

/-! ### The shift register -/

/-- After the 16 bits of the frame are shifted out, nothing of it is left (30 R85). -/
theorem loadedShift_shiftLeft_sixteen (opcode : Byte) : loadedShift opcode <<< 16 = 0 := by
  apply BitVec.eq_of_getLsbD_eq
  intro k hk
  rw [loadedShift, BitVec.getLsbD_shiftLeft, BitVec.getLsbD_append]
  have hlow : k - 16 < 16 := by omega
  simp [hlow]

/-- One Request tick's shift, as the shift by one bit more of the whole frame (30 R85). -/
theorem loadedShift_shiftLeft_succ (opcode : Byte) {n : Nat} (hlow : 1 ≤ n) (hhigh : n ≤ 16) :
    loadedShift opcode <<< (16 - n) <<< 1 = loadedShift opcode <<< (16 - (n - 1)) := by
  rw [← BitVec.shiftLeft_add]
  congr 1
  omega

/-- One more sample is one more bit at most (30 R86). -/
theorem shiftIn_toNat_lt {r : Word} {k : Nat} (h : r.toNat < 2 ^ k) (b : Bool) :
    (shiftIn r b).toNat < 2 ^ (k + 1) := by
  rw [shiftIn, BitVec.toNat_or]
  apply Nat.or_lt_two_pow
  · calc (r <<< 1).toNat
      _ ≤ r.toNat * 2 := by rw [BitVec.toNat_shiftLeft, Nat.shiftLeft_eq]; exact Nat.mod_le _ _
      _ < 2 ^ (k + 1) := by rw [Nat.pow_succ]; omega
  · calc ((BitVec.ofBool b).setWidth 32).toNat
      _ ≤ 1 := by cases b <;> decide
      _ < 2 ^ (k + 1) := Nat.one_lt_two_pow (by omega)

/-! ### The tick, phase by phase -/

section Ticks
variable {s : State} (w : Option Level) (h : SessionInv s)
include h

theorem onTick_keeps_sessionInv_start (hs : s.state = .start) : SessionInv (onTick w s) := by
  obtain ⟨hc, hr⟩ := (sessionInv_start hs).mp h
  rw [onTick_start hs, if_pos (countdown_sub_one_eq_zero.mpr hc)]
  exact (sessionInv_request rfl).mpr ⟨16, rfl, by decide, by decide, hr.trans (BitVec.shiftLeft_zero _).symm⟩

theorem onTick_keeps_sessionInv_request (hs : s.state = .request) : SessionInv (onTick w s) := by
  obtain ⟨n, hn, hlow, hhigh, hr⟩ := (sessionInv_request hs).mp h
  have hshift : s.shiftRegister <<< 1 = loadedShift s.requestOpcode <<< (16 - (n - 1)) := by
    rw [hr, loadedShift_shiftLeft_succ _ hlow hhigh]
  rw [onTick_request hs]
  split
  · next hlast =>
    rw [(countdown_done_iff hn).mp hlast] at hshift
    exact (sessionInv_turnaround rfl).mpr
      ⟨2, rfl, by decide, by decide, hshift.trans (loadedShift_shiftLeft_sixteen _)⟩
  · next hmore =>
    rw [countdown_done_iff hn] at hmore
    exact (sessionInv_request (by exact hs)).mpr
      ⟨n - 1, countdown_sub_one_toNat hn hlow, by omega, by omega, hshift⟩

theorem onTick_keeps_sessionInv_turnaround (hs : s.state = .turnaround) : SessionInv (onTick w s) := by
  obtain ⟨n, hn, hlow, hhigh, hr⟩ := (sessionInv_turnaround hs).mp h
  rw [onTick_turnaround hs]
  split
  · next hone =>
    exact (sessionInv_turnaround (by exact hs)).mpr ⟨1, congrArg BitVec.toNat hone, by decide, by decide, hr⟩
  · next hone =>
    have hc : s.tickCountdown - 1 = 0 := by bv_omega
    rw [if_pos hc]
    exact (sessionInv_response rfl).mpr
      ⟨32, rfl, by decide, by decide, by show s.shiftRegister.toNat < 1; rw [hr]; decide⟩

theorem onTick_keeps_sessionInv_response (hs : s.state = .response) : SessionInv (onTick w s) := by
  obtain ⟨n, hn, hlow, hhigh, hr⟩ := (sessionInv_response hs).mp h
  by_cases hc : s.tickCountdown = 1
  · obtain ⟨hstop, htwo⟩ := onTick_response_one hs hc w
    exact (sessionInv_stop hstop).mpr ⟨2, congrArg BitVec.toNat htwo, by decide, by decide⟩
  · have hmore : ¬ s.tickCountdown - 1 = 0 := countdown_sub_one_eq_zero.not.mpr hc
    have hn1 : n ≠ 1 := (countdown_done_iff hn).not.mp hmore
    have hbits : 32 - n + 1 = 32 - (n - 1) := by omega
    rw [onTick_response hs, if_neg hmore]
    exact (sessionInv_response (by exact hs)).mpr
      ⟨n - 1, countdown_sub_one_toNat hn hlow, by omega, by omega, hbits ▸ shiftIn_toNat_lt hr _⟩

theorem onTick_keeps_sessionInv_stop (hs : s.state = .stop) : SessionInv (onTick w s) := by
  obtain ⟨n, hn, hlow, hhigh⟩ := (sessionInv_stop hs).mp h
  rw [onTick_stop hs]
  split
  · exact sessionInv_idle rfl
  · next hmore =>
    rw [countdown_done_iff hn] at hmore
    exact (sessionInv_stop (by exact hs)).mpr ⟨n - 1, countdown_sub_one_toNat hn hlow, by omega, by omega⟩

/-- Every tick keeps the invariant; the one that finds Idle leaves Idle, and no other state is open. -/
theorem onTick_keeps_sessionInv : SessionInv (onTick w s) := by
  cases hs : s.state with
  | idle => exact sessionInv_idle (by rw [onTick_idle hs])
  | start => exact onTick_keeps_sessionInv_start w h hs
  | request => exact onTick_keeps_sessionInv_request w h hs
  | turnaround => exact onTick_keeps_sessionInv_turnaround w h hs
  | response => exact onTick_keeps_sessionInv_response w h hs
  | stop => exact onTick_keeps_sessionInv_stop w h hs
  | unrecognized code => exact absurd h (not_sessionInv_unrecognized hs)

end Ticks

/-! ### The other calls -/

/-- An accepted start enters the invariant: countdown 1 and the whole frame in the register (41 R131). -/
theorem acceptSession_sessionInv (opcode : Byte) (s : State) : SessionInv (acceptSession opcode s) := by
  rw [acceptSession_eq]
  exact (sessionInv_start rfl).mpr ⟨rfl, rfl⟩

/-- A start request enters a session or leaves the Session registers as they are. -/
theorem startSession_keeps_sessionInv {s : State} (h : SessionInv s) (opcode : Byte) :
    SessionInv (startSession opcode s) := by
  rcases startSession_cases opcode s with ⟨-, he⟩ | ⟨-, -, he⟩ | ⟨-, -, he⟩ <;> rw [he]
  · exact h
  · exact h
  · exact acceptSession_sessionInv opcode s

/-- Settles O47: by the call the step performs. A tick and a start request by the lemmas above, reset by leaving Idle;
the others write no Session register, so that the invariant of `t` is that of `s`. -/
theorem everyStepKeepsTheSessionInvariant : Obligations.EveryStepKeepsTheSessionInvariant := by
  intro s t h hstep
  rcases step_cases hstep with ⟨-, rfl⟩ | ⟨call, rest, -, hd⟩
  · exact h
  · have h' : SessionInv { s with inbox := rest } := h
    rcases deliver_cases hd with ⟨_, _, _, -, -, -, rfl⟩ | ⟨_, _, _, -, -, -, rfl⟩ | ⟨opcode, -, rfl⟩ | ⟨w, -, rfl⟩ |
      ⟨-, rfl⟩ | ⟨-, rfl⟩ | ⟨-, rfl⟩
    · exact h'
    · exact h'
    · exact startSession_keeps_sessionInv h' opcode
    · exact onTick_keeps_sessionInv w h'
    · exact h'
    · exact sessionInv_idle rfl
    · exact h'

end Sys2Proof.Proofs
end

section
/-!
The line and the tick source at the boundary (41 R145, 44 R223): what `BoundaryInv` says in each state, and that every
call the contract allows keeps it.
-/

namespace Sys2Proof.Proofs

open Sys2Proof.Machine
open Sys2Proof.Safety

/-! ### The invariant, state by state -/

section Phases
variable {s : State}

theorem boundaryInv_idle (hs : s.state = .idle) : BoundaryInv s ↔ s.tickArmed = false ∧ s.protocolFault = false := by
  simp [BoundaryInv, hs]

theorem boundaryInv_start (hs : s.state = .start) : BoundaryInv s ↔ s.lineMode = .output ∧ s.protocolFault = false := by
  simp [BoundaryInv, hs]

theorem boundaryInv_request (hs : s.state = .request) :
    BoundaryInv s ↔ s.lineMode = .output ∧ s.protocolFault = false := by
  simp [BoundaryInv, hs]

theorem boundaryInv_turnaround (hs : s.state = .turnaround) :
    BoundaryInv s ↔
      (s.tickCountdown = 1 → s.lineMode = .input) ∧ (s.tickCountdown ≠ 1 → s.lineMode = .output) ∧
        s.protocolFault = false := by
  simp [BoundaryInv, hs]

theorem boundaryInv_response (hs : s.state = .response) :
    BoundaryInv s ↔ s.lineMode = .input ∧ s.protocolFault = false := by
  simp [BoundaryInv, hs]

theorem boundaryInv_stop (hs : s.state = .stop) :
    BoundaryInv s ↔ s.lineMode = .output ∧ s.lineLatch = .high ∧ s.protocolFault = false := by
  simp [BoundaryInv, hs]

theorem not_boundaryInv_unrecognized {code : BadCode} (hs : s.state = .unrecognized code) : ¬ BoundaryInv s := by
  simp [BoundaryInv, hs]

end Phases

/-- The dispatcher raises no protocol fault (42 R184). -/
@[simp] theorem dispatch_protocolFault (opcode : Byte) (raw : Word) (s : State) :
    (dispatch opcode raw s).protocolFault = s.protocolFault := by
  rw [dispatch_eq]

/-! ### The tick, phase by phase -/

section Ticks
variable {s : State} (w : Option Level) (h : BoundaryInv s)
include h

theorem onTick_keeps_boundaryInv_start (hs : s.state = .start) : BoundaryInv (onTick w s) := by
  have hout := (boundaryInv_start hs).mp h
  rw [onTick_start hs]
  split
  · exact (boundaryInv_request rfl).mpr hout
  · exact (boundaryInv_start (by exact hs)).mpr hout

/-- The line stays in output mode while the request is sent, and Turnaround begins at countdown 2. -/
theorem onTick_keeps_boundaryInv_request (hs : s.state = .request) : BoundaryInv (onTick w s) := by
  obtain ⟨hout, hfault⟩ := (boundaryInv_request hs).mp h
  have htwo : (2 : Word) ≠ 1 := by decide
  rw [onTick_request hs]
  split
  · exact (boundaryInv_turnaround rfl).mpr ⟨fun hone => absurd hone htwo, fun _ => hout, hfault⟩
  · exact (boundaryInv_request (by exact hs)).mpr ⟨hout, hfault⟩

/-- The tick that reaches countdown 1 releases the line; the one after it finds the line released (41 R145). -/
theorem onTick_keeps_boundaryInv_turnaround (hs : s.state = .turnaround) : BoundaryInv (onTick w s) := by
  obtain ⟨hin, hout, hfault⟩ := (boundaryInv_turnaround hs).mp h
  rw [onTick_turnaround hs]
  split
  · next hone => exact (boundaryInv_turnaround (by exact hs)).mpr ⟨fun _ => rfl, fun hne => absurd hone hne, hfault⟩
  · next hone =>
    split
    · next hzero => exact (boundaryInv_response rfl).mpr ⟨hin (countdown_sub_one_eq_zero.mp hzero), hfault⟩
    · next hzero =>
      rw [countdown_sub_one_eq_zero] at hzero
      exact (boundaryInv_turnaround (by exact hs)).mpr ⟨fun h1 => absurd h1 hone, fun _ => hout hzero, hfault⟩

/-- The line stays released while the response is sampled, and is back in output mode and high in Stop (30 R84). -/
theorem onTick_keeps_boundaryInv_response (hs : s.state = .response) : BoundaryInv (onTick w s) := by
  obtain ⟨hin, hfault⟩ := (boundaryInv_response hs).mp h
  rw [onTick_response hs]
  split
  · exact (boundaryInv_stop (dispatch_state _ _ _)).mpr
      ⟨dispatch_lineMode _ _ _, dispatch_lineLatch _ _ _, (dispatch_protocolFault _ _ _).trans hfault⟩
  · exact (boundaryInv_response (by exact hs)).mpr ⟨hin, hfault⟩

/-- The tick that ends the session disarms (44 R223). -/
theorem onTick_keeps_boundaryInv_stop (hs : s.state = .stop) : BoundaryInv (onTick w s) := by
  obtain ⟨hout, hhigh, hfault⟩ := (boundaryInv_stop hs).mp h
  rw [onTick_stop hs]
  split
  · exact (boundaryInv_idle rfl).mpr ⟨rfl, hfault⟩
  · exact (boundaryInv_stop (by exact hs)).mpr ⟨hout, hhigh, hfault⟩

/-- A tick of an armed tick source: it cannot find Idle, where the tick source is disarmed. -/
theorem onTick_keeps_boundaryInv (harmed : s.tickArmed = true) : BoundaryInv (onTick w s) := by
  cases hs : s.state with
  | idle =>
    obtain ⟨hdisarmed, -⟩ := (boundaryInv_idle hs).mp h
    exact absurd (harmed.symm.trans hdisarmed) (by decide)
  | start => exact onTick_keeps_boundaryInv_start w h hs
  | request => exact onTick_keeps_boundaryInv_request w h hs
  | turnaround => exact onTick_keeps_boundaryInv_turnaround w h hs
  | response => exact onTick_keeps_boundaryInv_response w h hs
  | stop => exact onTick_keeps_boundaryInv_stop w h hs
  | unrecognized code => exact absurd h (not_boundaryInv_unrecognized hs)

end Ticks

/-! ### The other calls -/

/-- That there was no protocol fault is the part of the invariant that is the same in every state. -/
theorem boundaryInv_protocolFault {s : State} (h : BoundaryInv s) : s.protocolFault = false := by
  obtain ⟨-, -, -, -, -, hfault⟩ := h
  exact hfault

/-- A start request, with the line as the contract has it where the request is accepted (70 R294). -/
theorem startSession_keeps_boundaryInv {s : State} (h : BoundaryInv s) (opcode : Byte)
    (hline : s.state = .idle → s.lineMode = .output ∧ s.lineLatch = .high) : BoundaryInv (startSession opcode s) := by
  rcases startSession_cases opcode s with ⟨-, he⟩ | ⟨-, -, he⟩ | ⟨-, hs, he⟩ <;> rw [he]
  · exact h
  · exact h
  · obtain ⟨hout, -⟩ := hline hs
    have hfault := boundaryInv_protocolFault h
    rw [acceptSession_eq]
    exact (boundaryInv_start rfl).mpr ⟨hout, hfault⟩

/-- Disarming keeps the invariant in every state: it asks for an armed tick source in none. -/
theorem shutdown_keeps_boundaryInv {s : State} (h : BoundaryInv s) : BoundaryInv (shutdown s) := by
  obtain ⟨hin, hout, hhigh, -, hcode, hfault⟩ := h
  exact ⟨hin, hout, hhigh, fun harmed => absurd harmed Bool.false_ne_true, hcode, hfault⟩

/-- Reset of a CORE whose tick source is disarmed (10 R52, D17). -/
theorem resetCore_boundaryInv {s : State} (hdisarmed : s.tickArmed = false) : BoundaryInv (resetCore s) :=
  (boundaryInv_idle rfl).mpr ⟨hdisarmed, rfl⟩

/-- The hand-over between sessions (70 R293). -/
theorem handOver_keeps_boundaryInv {s : State} (h : BoundaryInv s) (hs : s.state = .idle) :
    BoundaryInv (handOver s) := by
  have hfault := boundaryInv_protocolFault h
  exact (boundaryInv_idle (by exact hs)).mpr ⟨rfl, hfault⟩

/-- The contract at the oldest call of an inbox, read at that call. -/
theorem nextCall_cons {s : State} {call : Input} {rest : List Input} (hi : s.inbox = call :: rest) :
    nextCall s = some call := by
  rw [nextCall, hi]
  rfl

/-- Settles O49: by the call the step performs, each with what the contract owes at that call. -/
theorem stepsUnderContractKeepTheBoundaryInvariant : Obligations.StepsUnderContractKeepTheBoundaryInvariant := by
  intro s t h hcontract hstep
  rcases step_cases hstep with ⟨-, rfl⟩ | ⟨call, rest, hi, hd⟩
  · exact h
  · have h' : BoundaryInv { s with inbox := rest } := h
    rw [ContractKept, nextCall_cons hi] at hcontract
    rcases deliver_cases hd with ⟨_, _, _, rfl, -, -, rfl⟩ | ⟨_, _, _, rfl, -, -, rfl⟩ | ⟨opcode, rfl, rfl⟩ |
      ⟨w, rfl, rfl⟩ | ⟨rfl, rfl⟩ | ⟨rfl, rfl⟩ | ⟨rfl, rfl⟩
    · exact h'
    · exact h'
    · exact startSession_keeps_boundaryInv h' opcode hcontract
    · exact onTick_keeps_boundaryInv w h' hcontract
    · exact shutdown_keeps_boundaryInv h'
    · exact resetCore_boundaryInv hcontract
    · exact handOver_keeps_boundaryInv h' hcontract

/-- Settles O50: the machine after reset is in Idle, disarmed, not configured and without an identification. -/
theorem freshMachineMeetsTheInvariants : Obligations.FreshMachineMeetsTheInvariants := by
  refine ⟨?session, ?device, ?boundary, ?timing⟩
  case session => exact sessionInv_idle (s := State.reset) rfl
  case device => exact ⟨by decide, by decide⟩
  case boundary => exact (boundaryInv_idle (s := State.reset) rfl).mpr ⟨rfl, rfl⟩
  case timing => exact fun (hc : State.reset.configured = true) => absurd hc (by decide)

end Sys2Proof.Proofs
end

section
/-!
The laws of `crc8` (40 R118): it is linear in seed and stream jointly, and a bijection of the seed and of the last byte.
-/

namespace Sys2Proof.Proofs

/-! ### Linearity -/

/-- By induction on both streams, for every pair of seeds: one table read is linear, by `crcRom_xor`. -/
theorem crc8_xor (s : List Byte) : ∀ (t : List Byte) (i j : Byte), s.length = t.length →
    crc8 (i ^^^ j) (List.zipWith (· ^^^ ·) s t) = crc8 i s ^^^ crc8 j t := by
  induction s with
  | nil =>
    intro t i j hlen
    obtain rfl : t = [] := List.eq_nil_of_length_eq_zero hlen.symm
    rfl
  | cons a s ih =>
    intro t i j hlen
    cases t with
    | nil => cases hlen
    | cons b t =>
      have hxor : (i ^^^ j) ^^^ (a ^^^ b) = (i ^^^ a) ^^^ (j ^^^ b) := by
        ac_rfl
      rw [List.zipWith_cons_cons, crc8_cons, hxor, crcRom_xor, ih t _ _ (Nat.succ.inj hlen)]
      rfl

/-- Settles O2. -/
theorem crcIsLinearInSeedAndStream : Obligations.CrcIsLinearInSeedAndStream :=
  fun i j s t hlen => crc8_xor s t i j hlen

/-- A stream of zeros added to a stream changes nothing. -/
theorem zipWith_xor_zeros (s : List Byte) : List.zipWith (· ^^^ ·) s (List.replicate s.length 0) = s := by
  induction s with
  | nil => rfl
  | cons b s ih =>
    rw [List.length_cons, List.replicate_succ, List.zipWith_cons_cons, ih]
    exact congrArg (· :: s) BitVec.xor_zero

/-- The seed contributes a value that depends on the length only (40 R118(f)): linearity at the seed 0 and zeros. -/
theorem crc8_eq_zero_seed_xor (init : Byte) (s : List Byte) :
    crc8 init s = crc8 0 s ^^^ crcSeedContribution init s.length := by
  have hlinear := crc8_xor s (List.replicate s.length 0) 0 init List.length_replicate.symm
  rw [zipWith_xor_zeros, show (0 : Byte) ^^^ init = init from BitVec.zero_xor] at hlinear
  exact hlinear

/-! ### Bijections -/

/-- A byte that equals the register leaves 0 (40 R118(c)). -/
theorem crc8_self (c : Byte) : crc8 c [c] = 0 := by
  rw [crc8_cons, crc8_nil, BitVec.xor_self]
  rfl

/-- Two seeds that a stream takes to one value are equal: the table has no two equal entries (40 R118(e)). -/
theorem crc8_seed_injective (s : List Byte) : ∀ a b : Byte, crc8 a s = crc8 b s → a = b := by
  induction s with
  | nil => exact fun a b h => h
  | cons c s ih =>
    intro a b h
    have hindex : a ^^^ c = b ^^^ c := crcRom_injective _ _ (ih _ _ h)
    exact (BitVec.xor_left_inj c).mp hindex

/-- Every value is reached from some seed (40 R118(e)). -/
theorem crc8_seed_surjective (s : List Byte) (c : Byte) : ∃ init, crc8 init s = c :=
  Finite.surjective_of_injective (fun a b h => crc8_seed_injective s a b h) c

/-- The last byte is absorbed by one table read. -/
theorem crc8_concat (init : Byte) (leading : List Byte) (b : Byte) :
    crc8 init (leading ++ [b]) = crcRom (crc8 init leading ^^^ b) := by
  rw [crc8_append, crc8_cons, crc8_nil]

/-- Settles O3: the value is a table entry, and its index is the value of the leading bytes XOR the last byte. -/
theorem crcIsBijectiveInTheLastByte : Obligations.CrcIsBijectiveInTheLastByte := by
  intro init leading c
  obtain ⟨index, hindex⟩ := crcRom_surjective c
  refine ⟨crc8 init leading ^^^ index, ?reached, fun b hb => ?unique⟩
  case reached => rw [crc8_concat, ← BitVec.xor_assoc, BitVec.xor_self, BitVec.zero_xor, hindex]
  case unique =>
    rw [crc8_concat, ← hindex] at hb
    rw [← crcRom_injective _ _ hb, ← BitVec.xor_assoc, BitVec.xor_self, BitVec.zero_xor]

/-- Settles O58: the laws above, and the three constants evaluated. -/
theorem crcObeysItsFurtherLaws : Obligations.CrcObeysItsFurtherLaws := by
  refine ⟨crc8_nil, crc8_append, crc8_self, fun c => ?table, fun stream c => ?seed, crc8_eq_zero_seed_xor, ?constants⟩
  case table =>
    obtain ⟨i, hi⟩ := crcRom_surjective c
    exact ⟨i, hi, fun i' hi' => crcRom_injective _ _ (hi'.trans hi.symm)⟩
  case seed =>
    obtain ⟨init, hinit⟩ := crc8_seed_surjective stream c
    exact ⟨init, hinit, fun init' h => crc8_seed_injective stream _ _ (h.trans hinit.symm)⟩
  case constants => decide +kernel

end Sys2Proof.Proofs
end

section
/-!
The check of a response (40 R120, R122): it is that the CRC over all four bytes is 0, so flipped bits are detected
exactly when their own CRC, from seed 0, is not 0. That CRC is the syndrome of the flipped bits.
-/

namespace Sys2Proof.Proofs

open Sys2Proof.Machine

/-! ### The check as a syndrome -/

/-- The bytes of a response, the check byte last (40 R120). -/
def frameBytes (raw : Word) : List Byte :=
  [byte3 raw, byte2 raw, byte1 raw, byte0 raw]

/-- The CRC of a pattern of flipped bits, from seed 0 (40 R122). -/
def syndrome (flips : Word) : Byte :=
  crc8 0 (frameBytes flips)

/-- The table takes index 0, and no other, to 0. -/
theorem crcRom_eq_zero_iff {i : Byte} : crcRom i = 0 ↔ i = 0 := by
  refine ⟨crcRom_eq_zero i, ?_⟩
  rintro rfl
  rfl

/-- A response is valid exactly when the CRC over its four bytes is 0: the last byte leaves 0 exactly when it equals the
register before it, which is the value the check compares (40 R120). -/
theorem frameValid_iff {raw : Word} : frameValid raw = true ↔ crc8 crcSeed (frameBytes raw) = 0 := by
  have hlast : crc8 crcSeed (frameBytes raw) = crcRom (crc8 crcSeed [byte3 raw, byte2 raw, byte1 raw] ^^^ byte0 raw) :=
    crc8_concat _ [byte3 raw, byte2 raw, byte1 raw] _
  rw [hlast, crcRom_eq_zero_iff, frameValid, beq_iff_eq]
  exact BitVec.xor_eq_zero_iff.symm

/-- Settles O5: `frameValid_iff`, and the two stuck lines evaluated (42 R185). -/
theorem validMeansCrcOverTheFrameIsZero : Obligations.ValidMeansCrcOverTheFrameIsZero :=
  ⟨fun _ => frameValid_iff, by decide +kernel, by decide +kernel⟩

theorem frameBytes_xor (a b : Word) :
    frameBytes (a ^^^ b) = List.zipWith (· ^^^ ·) (frameBytes a) (frameBytes b) := by
  simp [frameBytes, byte3, byte2, byte1, byte0, BitVec.extractLsb'_xor]

/-- The syndrome is linear in the flipped bits. -/
theorem syndrome_xor (a b : Word) : syndrome (a ^^^ b) = syndrome a ^^^ syndrome b := by
  rw [syndrome, frameBytes_xor]
  exact crc8_xor (frameBytes a) (frameBytes b) 0 0 rfl

/-- Flipped bits of a valid response are detected when their syndrome is not 0, whatever the response (40 R122). -/
theorem frameValid_flipped {raw flips : Word} (hv : frameValid raw = true) (hf : syndrome flips ≠ 0) :
    frameValid (raw ^^^ flips) = false := by
  have hlinear : crc8 crcSeed (frameBytes (raw ^^^ flips)) = crc8 crcSeed (frameBytes raw) ^^^ syndrome flips := by
    rw [frameBytes_xor]
    exact crc8_xor (frameBytes raw) (frameBytes flips) crcSeed 0 rfl
  rw [Bool.eq_false_iff, ne_eq, frameValid_iff, hlinear, frameValid_iff.mp hv]
  exact fun h => hf (BitVec.zero_xor.symm.trans h)

/-! ### Syndromes of one, two and three bits -/

/-- Whether the number of set bits of a byte is odd. -/
def oddBits (b : Byte) : Bool :=
  (bitsMsbFirst b).foldl Bool.xor false

/-- The parity of two lists of bits of equal length, bit by bit. -/
theorem foldl_xor_zipWith (ds : List Bool) : ∀ (es : List Bool) (a b : Bool), ds.length = es.length →
    (List.zipWith Bool.xor ds es).foldl Bool.xor (Bool.xor a b) =
      Bool.xor (ds.foldl Bool.xor a) (es.foldl Bool.xor b) := by
  induction ds with
  | nil =>
    intro es a b hlen
    obtain rfl : es = [] := List.eq_nil_of_length_eq_zero hlen.symm
    rfl
  | cons d ds ih =>
    intro es a b hlen
    cases es with
    | nil => cases hlen
    | cons e es =>
      have hxor : Bool.xor (Bool.xor a b) (Bool.xor d e) = Bool.xor (Bool.xor a d) (Bool.xor b e) := by
        rw [Bool.xor_assoc, Bool.xor_assoc, Bool.xor_left_comm b]
      rw [List.zipWith_cons_cons, List.foldl_cons, hxor, ih es _ _ (Nat.succ.inj hlen)]
      rfl

theorem oddBits_xor (a b : Byte) : oddBits (a ^^^ b) = Bool.xor (oddBits a) (oddBits b) := by
  rw [oddBits, bitsMsbFirst_xor]
  exact foldl_xor_zipWith _ _ false false rfl

/-- Every one-bit flip has a syndrome of an odd number of set bits: the polynomial of 40 R111 has an even number of
terms. -/
theorem oddBits_syndrome_twoPow : ∀ i : Fin 32, oddBits (syndrome (BitVec.twoPow 32 i)) = true := by
  decide +kernel

/-- The 32 one-bit syndromes are distinct (40 R122). -/
theorem syndrome_twoPow_injective : ∀ i j : Fin 32,
    syndrome (BitVec.twoPow 32 i) = syndrome (BitVec.twoPow 32 j) → i = j := by
  decide +kernel

/-- A word with an odd number of set bits is not 0. -/
theorem ne_zero_of_oddBits {b : Byte} (h : oddBits b = true) : b ≠ 0 := by
  rintro rfl
  exact absurd h (by decide)

/-- One flipped bit. -/
theorem syndrome_one_bit (i : Fin 32) : syndrome (BitVec.twoPow 32 i) ≠ 0 :=
  ne_zero_of_oddBits (oddBits_syndrome_twoPow i)

/-- Two flipped bits: their syndromes are distinct. -/
theorem syndrome_two_bits {i j : Fin 32} (hij : i ≠ j) :
    syndrome (BitVec.twoPow 32 i ^^^ BitVec.twoPow 32 j) ≠ 0 := by
  rw [syndrome_xor]
  exact fun h => hij (syndrome_twoPow_injective i j (BitVec.xor_eq_zero_iff.mp h))

/-- Three flipped bits: an odd number of odd syndromes. -/
theorem syndrome_three_bits (i j k : Fin 32) :
    syndrome (BitVec.twoPow 32 i ^^^ BitVec.twoPow 32 j ^^^ BitVec.twoPow 32 k) ≠ 0 := by
  apply ne_zero_of_oddBits
  simp only [syndrome_xor, oddBits_xor, oddBits_syndrome_twoPow]
  rfl

/-- Two words without a common set bit: their union is their exclusive or. -/
theorem or_eq_xor_of_disjoint {x y : Word} (h : ∀ k, ¬ (x.getLsbD k = true ∧ y.getLsbD k = true)) :
    x ||| y = x ^^^ y := by
  apply BitVec.eq_of_getLsbD_eq
  intro k _
  rw [BitVec.getLsbD_or, BitVec.getLsbD_xor]
  cases hx : x.getLsbD k with
  | false => rw [Bool.false_or, Bool.false_xor]
  | true =>
    have hy : y.getLsbD k = false := Bool.eq_false_iff.mpr fun hy => h k ⟨hx, hy⟩
    rw [hy, Bool.or_false, Bool.xor_false]

/-- The position of the only set bit of a power of two. -/
theorem eq_of_getLsbD_twoPow {i : Fin 32} {k : Nat} (h : (BitVec.twoPow 32 i).getLsbD k = true) : i = k := by
  rw [BitVec.getLsbD_twoPow, Bool.and_eq_true, decide_eq_true_eq, decide_eq_true_eq] at h
  exact h.2

theorem twoPow_or_twoPow {i j : Fin 32} (hij : i ≠ j) :
    BitVec.twoPow 32 i ||| BitVec.twoPow 32 j = BitVec.twoPow 32 i ^^^ BitVec.twoPow 32 j := by
  refine or_eq_xor_of_disjoint fun k ⟨hi, hj⟩ => hij (Fin.ext ?_)
  rw [eq_of_getLsbD_twoPow hi, eq_of_getLsbD_twoPow hj]

/-- A pattern of two positions, which may coincide, is one bit or two. -/
theorem syndrome_or_ne_zero (i j : Fin 32) : syndrome (BitVec.twoPow 32 i ||| BitVec.twoPow 32 j) ≠ 0 := by
  by_cases hij : i = j
  · rw [hij, BitVec.or_self]
    exact syndrome_one_bit j
  · rw [twoPow_or_twoPow hij]
    exact syndrome_two_bits hij

/-- A pattern of three positions, which may coincide: three distinct ones, or a pattern of two. -/
theorem syndrome_or_or_ne_zero (i j k : Fin 32) :
    syndrome (BitVec.twoPow 32 i ||| BitVec.twoPow 32 j ||| BitVec.twoPow 32 k) ≠ 0 := by
  by_cases hij : i = j
  · rw [hij, BitVec.or_self]
    exact syndrome_or_ne_zero j k
  · by_cases hik : i = k
    · rw [hik, BitVec.or_comm (BitVec.twoPow 32 k), BitVec.or_assoc, BitVec.or_self]
      exact syndrome_or_ne_zero j k
    · by_cases hjk : j = k
      · rw [hjk, BitVec.or_assoc, BitVec.or_self]
        exact syndrome_or_ne_zero i k
      · rw [twoPow_or_twoPow hij, or_eq_xor_of_disjoint]
        · exact syndrome_three_bits i j k
        · rintro p ⟨hx, hk⟩
          rw [← eq_of_getLsbD_twoPow hk, BitVec.getLsbD_xor, BitVec.getLsbD_twoPow, BitVec.getLsbD_twoPow] at hx
          simp [Fin.val_inj, hik, hjk] at hx

/-- Settles O4: no pattern of one, two or three bits has syndrome 0. -/
theorem upToThreeFlippedBitsAreDetected : Obligations.UpToThreeFlippedBitsAreDetected :=
  fun _ i j k hv => frameValid_flipped hv (syndrome_or_or_ne_zero i j k)

end Sys2Proof.Proofs
end

section
/-!
The completion dispatcher (42 sections 1 to 4): its four outcomes as flat updates, a second dispatch, and a history of
dispatches.
-/

namespace Sys2Proof.Proofs

open Sys2Proof.Machine
open Sys2Proof.Safety

/-! ### Coordinates -/

theorem high_nibble : ∀ b : Byte, b >>> 4 = (b.extractLsb' 4 4).setWidth 8 := by
  decide +kernel

theorem low_nibble : ∀ b : Byte, b &&& 0xF = (b.extractLsb' 0 4).setWidth 8 := by
  decide +kernel

/-- A coordinate is a nibble followed by a byte (30 R96). -/
theorem nibble_or_byte (n : BitVec 4) (b : Byte) :
    ((n.setWidth 8).setWidth 12 <<< 8) ||| b.setWidth 12 = n ++ b := by
  apply BitVec.eq_of_getLsbD_eq
  intro k hk
  have h12 : k < 12 := hk
  rw [BitVec.getLsbD_append]
  split
  · next hbyte => simp [hbyte, h12]
  · next hnibble =>
    have hb : b.getLsbD k = false := BitVec.getLsbD_of_ge _ _ (by omega)
    simp [hnibble, h12, hb]

/-- A field of a byte of a word is a field of the word. -/
theorem extractLsb'_byte3 (raw : Word) {start len : Nat} (h : start + len ≤ 8) :
    (byte3 raw).extractLsb' start len = raw.extractLsb' (24 + start) len := by
  apply BitVec.eq_of_getLsbD_eq
  intro k hk
  have hbyte : start + k < 8 := by omega
  rw [byte3, BitVec.getLsbD_extractLsb', BitVec.getLsbD_extractLsb', BitVec.getLsbD_extractLsb', decide_eq_true hbyte,
    Bool.true_and, Nat.add_assoc]

theorem touchX_eq (raw : Word) : touchX raw = raw.extractLsb' 28 4 ++ raw.extractLsb' 16 8 := by
  rw [touchX, high_nibble, nibble_or_byte, extractLsb'_byte3 raw (by decide)]
  rfl

theorem touchY_eq (raw : Word) : touchY raw = raw.extractLsb' 24 4 ++ raw.extractLsb' 8 8 := by
  rw [touchY, low_nibble, nibble_or_byte, extractLsb'_byte3 raw (by decide)]
  rfl

theorem pressed_eq (x y : BitVec 12) : pressed x y = decide (x ≠ 0xFFF ∧ y ≠ 0xFFF) := by
  rw [pressed, Bool.decide_and]
  congr 1 <;> exact (decide_not ..).symm

/-! ### The decoding by opcode -/

theorem decodeResponse_touch (raw : Word) :
    decodeResponse opTouch raw = .touch (touchX raw) (touchY raw) (pressed (touchX raw) (touchY raw)) := rfl

/-- A code of `0xFF` says that the identification is not yet available (42 R179). -/
theorem decodeResponse_ident_notAvailable {raw : Word} (hc : byte3 raw = identNotAvailable) :
    decodeResponse opIdent raw = .notAvailable := by
  rcases decodeResponse_cases opIdent raw with ⟨ht, -⟩ | ⟨-, hn, -⟩ | ⟨-, -, hd⟩ | ⟨-, hi, -⟩
  · exact absurd ht (by decide)
  · exact absurd hc hn
  · exact hd
  · exact absurd rfl hi

/-- Every other request is answered by an acknowledgment (42 R180). -/
theorem decodeResponse_other {opcode : Byte} (ht : opcode ≠ opTouch) (hi : opcode ≠ opIdent) (raw : Word) :
    decodeResponse opcode raw = .acknowledgment := by
  rw [decodeResponse, if_neg ht, if_neg hi]

/-! ### The four outcomes -/

/-- Settles O24: a dispatch of an invalid response counts it and raises the frame error. -/
theorem failedCheckIsAFrameError : Obligations.FailedCheckIsAFrameError := by
  intro opcode raw s hv
  rw [dispatch_invalid hv, raise_frameError]
  simp only [pastWarmup_eq_true]
  rfl

/-- Settles O25: the coordinates of a valid touch response are its bits, by `touchX_eq` and `touchY_eq`. -/
theorem validTouchResponseIsReported : Obligations.ValidTouchResponseIsReported := by
  intro raw s x y hv hx hy
  rw [← touchX_eq] at hx
  rw [← touchY_eq] at hy
  subst hx hy
  rw [← pressed_eq]
  exact dispatch_valid hv opTouch s

/-- Settles O26: a valid identification is stored where its code is available, and otherwise only counted. -/
theorem validIdentificationIsStoredUnlessUnavailable : Obligations.ValidIdentificationIsStoredUnlessUnavailable := by
  intro raw s code version hv hcode hversion
  subst hcode hversion
  split
  · next hc => exact (dispatch_valid hv opIdent s).trans (by rw [decodeResponse_ident_notAvailable hc]; rfl)
  · next hc => exact (dispatch_valid hv opIdent s).trans (by rw [decodeResponse_ident_available hc]; rfl)

/-- Settles O27: any other valid response is an acknowledgment. -/
theorem validAcknowledgmentSetsBacklightReady : Obligations.ValidAcknowledgmentSetsBacklightReady := by
  intro opcode raw s hv ht hi
  rw [dispatch_valid hv, decodeResponse_other ht hi]
  rfl

/-! ### A second dispatch -/

/-- What a response stores does not depend on what was stored before, and what it leaves it leaves again. -/
theorem completedCode_idem (opcode : Byte) (raw : Word) (old : Byte) :
    completedCode opcode raw (completedCode opcode raw old) = completedCode opcode raw old := by
  unfold completedCode
  cases frameValid raw <;> cases decodeResponse opcode raw <;> rfl

theorem completedVersion_idem (opcode : Byte) (raw : Word) (old : BitVec 16) :
    completedVersion opcode raw (completedVersion opcode raw old) = completedVersion opcode raw old := by
  unfold completedVersion
  cases frameValid raw <;> cases decodeResponse opcode raw <;> rfl

theorem completedReady_idem (opcode : Byte) (raw : Word) (old : Bool) :
    completedReady opcode raw (completedReady opcode raw old) = completedReady opcode raw old := by
  unfold completedReady
  cases frameValid raw <;> cases decodeResponse opcode raw <;> rfl

/-- Settles O30: each item of the Device State is a function of the response and the old value that is idempotent. -/
theorem dispatchIsIdempotentOnDeviceState : Obligations.DispatchIsIdempotentOnDeviceState := by
  intro opcode raw s t u ht hu
  subst ht hu
  rw [dispatch_eq opcode raw s, dispatch_eq]
  exact ⟨completedCode_idem _ _ _, completedVersion_idem _ _ _, completedReady_idem _ _ _⟩

/-! ### A history of receptions -/

theorem dispatchAll_concat (frames : List (Byte × Word)) (f : Byte × Word) (s : State) :
    dispatchAll (frames ++ [f]) s = dispatch f.1 f.2 (dispatchAll frames s) := by
  simp [dispatchAll]

@[simp] theorem dispatch_totalReceived (opcode : Byte) (raw : Word) (s : State) :
    (dispatch opcode raw s).totalReceived = s.totalReceived + 1 := by
  rw [dispatch_eq]

@[simp] theorem dispatch_totalError (opcode : Byte) (raw : Word) (s : State) :
    (dispatch opcode raw s).totalError = completedErrors raw s.totalReceived s.totalError := by
  rw [dispatch_eq]

/-- A counter below the largest value is incremented without wrapping. -/
theorem counter_succ_toNat {c : Word} {n : Nat} (hc : c.toNat = n) (hn : n + 1 < 2 ^ 32) : (c + 1).toNat = n + 1 := by
  bv_omega

/-- The error count after one reception, in natural numbers: a bad one counts once 100 came before it (42 R175). -/
theorem completedErrors_toNat {received errors : Word} {n e : Nat} (hr : received.toNat = n) (he : errors.toNat = e)
    (hen : e ≤ n) (hn : n + 1 < 2 ^ 32) (raw : Word) :
    (completedErrors raw received errors).toNat = if frameValid raw = false ∧ 100 ≤ n then e + 1 else e := by
  have hpast : pastWarmup (received + 1) = true ↔ 100 ≤ n := by
    rw [pastWarmup_eq_true, BitVec.lt_def, counter_succ_toNat hr hn]
    exact Nat.lt_succ_iff
  unfold completedErrors
  cases frameValid raw with
  | true => exact he
  | false =>
    simp only [hpast, true_and, Bool.false_eq_true, if_false]
    split
    · exact counter_succ_toNat he (by omega)
    · exact he

/-- The bad receptions after the first 100, with one reception more (42 R175). -/
theorem countP_drop_concat (frames : List (Byte × Word)) (f : Byte × Word) :
    ((frames ++ [f]).drop 100).countP (fun g => !frameValid g.2) =
      if frameValid f.2 = false ∧ 100 ≤ frames.length then
        (frames.drop 100).countP (fun g => !frameValid g.2) + 1
      else (frames.drop 100).countP (fun g => !frameValid g.2) := by
  by_cases hlen : 100 ≤ frames.length
  · have hf : 100 - frames.length = 0 := by omega
    cases hv : frameValid f.2 <;> simp [List.drop_append, hf, hlen, hv, List.countP_append]
  · have hnone : frames.drop 100 = [] := List.drop_eq_nil_of_le (by omega)
    have hrest : 100 - frames.length = (99 - frames.length) + 1 := by omega
    simp [List.drop_append, hnone, hrest, hlen]

/-- By induction on the history from its end: the last reception meets the counters of those before it. -/
theorem dispatchAll_counters {s : State} (hr : s.totalReceived = 0) (he : s.totalError = 0)
    (frames : List (Byte × Word)) : frames.length < 2 ^ 32 →
    (dispatchAll frames s).totalReceived.toNat = frames.length ∧
      (dispatchAll frames s).totalError.toNat = (frames.drop 100).countP (fun f => !frameValid f.2) := by
  induction frames using List.reverseRecOn with
  | nil =>
    intro _
    exact ⟨congrArg BitVec.toNat hr, congrArg BitVec.toNat he⟩
  | append_singleton frames f ih =>
    intro hlen
    rw [List.length_append, List.length_singleton] at hlen ⊢
    obtain ⟨hreceived, herror⟩ := ih (by omega)
    have hle : (frames.drop 100).countP (fun f => !frameValid f.2) ≤ frames.length :=
      List.countP_le_length.trans (List.drop_sublist 100 frames).length_le
    rw [dispatchAll_concat, dispatch_totalReceived, dispatch_totalError, countP_drop_concat,
      completedErrors_toNat hreceived herror hle hlen]
    exact ⟨counter_succ_toNat hreceived hlen, rfl⟩

/-- Settles O31. -/
theorem warmupSuppressesTheFirstHundredReceptions : Obligations.WarmupSuppressesTheFirstHundredReceptions :=
  fun frames _ hr he hlen => dispatchAll_counters hr he frames hlen

end Sys2Proof.Proofs
end

section
/-!
The timing configuration (44) over the natural numbers: when the parameters give a reload value, and which.
-/

namespace Sys2Proof.Proofs

open Sys2Proof.Machine

/-- The prescaler's divisor wraps to 0 for the largest prescaler only (D20). -/
theorem divisor_ne_zero_iff {pre : Word} : pre + 1 ≠ 0 ↔ pre ≠ BitVec.allOnes 32 := by
  have hall : BitVec.allOnes 32 = (-1 : Word) := by decide
  rw [hall, ne_eq, ne_eq, ← eq_neg_iff_add_eq_zero]

theorem divisor_toNat {pre : Word} (h : pre ≠ BitVec.allOnes 32) : (pre + 1).toNat = pre.toNat + 1 := by
  have hne := divisor_ne_zero_iff.mpr h
  bv_omega

/-- The two truncating divisions are one by the product (44 R220). -/
theorem quotient_toNat {ref pre rate : Word} (h : pre ≠ BitVec.allOnes 32) :
    (ref / (pre + 1) / rate).toNat = ref.toNat / ((pre.toNat + 1) * rate.toNat) := by
  rw [BitVec.toNat_udiv, BitVec.toNat_udiv, divisor_toNat h, Nat.div_div_eq_div_mul]

/-- The quotient is not 0 exactly when the clock rate reaches the product of the divisors. -/
theorem quotient_ne_zero_iff {ref pre rate : Word} (hrate : rate ≠ 0) (hpre : pre ≠ BitVec.allOnes 32) :
    ref / (pre + 1) / rate ≠ 0 ↔ (pre.toNat + 1) * rate.toNat ≤ ref.toNat := by
  have hrate' : rate.toNat ≠ 0 := fun h => hrate (BitVec.eq_of_toNat_eq h)
  have hzero : ref / (pre + 1) / rate = 0 ↔ (ref / (pre + 1) / rate).toNat = 0 :=
    ⟨fun h => congrArg BitVec.toNat h, fun h => BitVec.eq_of_toNat_eq h⟩
  rw [ne_eq, hzero, quotient_toNat hpre, ← ne_eq, Nat.div_ne_zero_iff]
  exact and_iff_right (Nat.mul_ne_zero (Nat.succ_ne_zero _) hrate')

/-- When the parameters give a reload value, on natural numbers (44 R224, R226). -/
theorem configurationFails_eq_false_iff {ref pre rate : Word} :
    configurationFails ref pre rate = false ↔
      rate ≠ 0 ∧ pre ≠ BitVec.allOnes 32 ∧ (pre.toNat + 1) * rate.toNat ≤ ref.toNat := by
  rw [configurationFails_eq_false, divisor_ne_zero_iff]
  constructor
  · rintro ⟨-, hrate, hpre, hq⟩
    exact ⟨hrate, hpre, (quotient_ne_zero_iff hrate hpre).mp hq⟩
  · rintro ⟨hrate, hpre, hle⟩
    have hq := (quotient_ne_zero_iff hrate hpre).mpr hle
    refine ⟨?_, hrate, hpre, hq⟩
    rintro rfl
    simp at hq

/-- Settles O34: the quotient is not 0, so the decrement does not borrow. -/
theorem reloadIsOneTruncatingDivision : Obligations.ReloadIsOneTruncatingDivision := by
  intro ref pre rate hf
  obtain ⟨hrate, hpre, hle⟩ := configurationFails_eq_false_iff.mp hf
  have hq := (quotient_ne_zero_iff hrate hpre).mpr hle
  rw [← quotient_toNat hpre, deriveReload]
  generalize ref / (pre + 1) / rate = q at hq ⊢
  bv_omega

/-- The reload value as the word of the natural number (44 R220). -/
theorem deriveReload_eq_ofNat {ref pre rate : Word} (hf : configurationFails ref pre rate = false) :
    deriveReload ref pre rate = BitVec.ofNat 32 (ref.toNat / ((pre.toNat + 1) * rate.toNat) - 1) := by
  rw [← reloadIsOneTruncatingDivision ref pre rate hf, Nat.add_sub_cancel, BitVec.ofNat_toNat, BitVec.setWidth_eq]

/-- `init` in Idle (44 R226). -/
theorem init_idle {s : State} (hs : s.state = .idle) (ref pre rate : Word) :
    init ref pre rate s =
      if configurationFails ref pre rate then .next (raiseCondition .configurationError s)
      else .next { s with reloadValue := deriveReload ref pre rate, configured := true } := by
  rw [init, busy_eq_false.mpr hs]
  rfl

/-- Settles O32: the conditions are those of `configurationFails_eq_false_iff`. -/
theorem initStoresTheDerivedReload : Obligations.InitStoresTheDerivedReload := by
  intro s ref pre rate rest hi hs hrate hpre hle
  have hf := configurationFails_eq_false_iff.mpr ⟨hrate, hpre, hle⟩
  rw [step_cons hi, ← deriveReload_eq_ofNat hf]
  exact (init_idle (s := { s with inbox := rest }) hs ref pre rate).trans (by rw [hf]; rfl)

/-- Settles O33: the causes are those that `configurationFails_eq_false_iff` excludes. -/
theorem initFailsWithoutAReload : Obligations.InitFailsWithoutAReload := by
  intro s ref pre rate rest hi hs hcause
  have hf : configurationFails ref pre rate = true := by
    rw [← Bool.not_eq_false, configurationFails_eq_false_iff]
    rintro ⟨hrate, hpre, hle⟩
    rcases hcause with h | h | h
    · exact hrate h
    · exact hpre h
    · omega
  rw [step_cons hi]
  exact (init_idle (s := { s with inbox := rest }) hs ref pre rate).trans (by rw [hf]; rfl)

end Sys2Proof.Proofs
end

section
/-!
Who writes what (10 R41): what a start request and a tick leave unchanged, and the rules of the whole machine that
follow.
-/

namespace Sys2Proof.Proofs

open Sys2Proof.Machine
open Sys2Proof.Safety

/-! ### Frames -/

/-- The Device State and the reception counters are the same in both states. -/
structure SameDevice (s t : State) : Prop where
  identificationCode : t.identificationCode = s.identificationCode
  firmwareVersion : t.firmwareVersion = s.firmwareVersion
  backlightReady : t.backlightReady = s.backlightReady
  totalReceived : t.totalReceived = s.totalReceived
  totalError : t.totalError = s.totalError

/-- What no start request writes. -/
structure StartFrame (s t : State) : Prop where
  device : SameDevice s t
  reloadValue : t.reloadValue = s.reloadValue
  configured : t.configured = s.configured
  protocolFault : t.protocolFault = s.protocolFault

/-- What no tick writes. -/
structure TickFrame (s t : State) : Prop where
  requestOpcode : t.requestOpcode = s.requestOpcode
  reloadValue : t.reloadValue = s.reloadValue
  configured : t.configured = s.configured
  totalBusy : t.totalBusy = s.totalBusy

theorem startSession_frame (opcode : Byte) (s : State) : StartFrame s (startSession opcode s) := by
  rcases startSession_cases opcode s with ⟨-, he⟩ | ⟨-, -, he⟩ | ⟨-, -, he⟩ <;> rw [he] <;>
    exact ⟨⟨rfl, rfl, rfl, rfl, rfl⟩, rfl, rfl, rfl⟩

theorem onTick_frame (w : Option Level) (s : State) : TickFrame s (onTick w s) := by
  cases hs : s.state with
  | start => rw [onTick_start hs]; split <;> exact ⟨rfl, rfl, rfl, rfl⟩
  | request => rw [onTick_request hs]; split <;> exact ⟨rfl, rfl, rfl, rfl⟩
  | turnaround =>
    rw [onTick_turnaround hs]
    split
    · exact ⟨rfl, rfl, rfl, rfl⟩
    · split <;> exact ⟨rfl, rfl, rfl, rfl⟩
  | response =>
    rw [onTick_response hs]
    split
    · rw [dispatch_eq]; exact ⟨rfl, rfl, rfl, rfl⟩
    · exact ⟨rfl, rfl, rfl, rfl⟩
  | stop => rw [onTick_stop hs]; split <;> exact ⟨rfl, rfl, rfl, rfl⟩
  | idle => rw [onTick_idle hs]; exact ⟨rfl, rfl, rfl, rfl⟩
  | unrecognized code => rw [onTick_unrecognized hs]; exact ⟨rfl, rfl, rfl, rfl⟩

/-- A tick that is not the last of Response leaves the Device State and the counters (42 R170). -/
theorem onTick_sameDevice {s : State} (w : Option Level) (h : ¬ (s.state = .response ∧ s.tickCountdown = 1)) :
    SameDevice s (onTick w s) := by
  cases hs : s.state with
  | start => rw [onTick_start hs]; split <;> exact ⟨rfl, rfl, rfl, rfl, rfl⟩
  | request => rw [onTick_request hs]; split <;> exact ⟨rfl, rfl, rfl, rfl, rfl⟩
  | turnaround =>
    rw [onTick_turnaround hs]
    split
    · exact ⟨rfl, rfl, rfl, rfl, rfl⟩
    · split <;> exact ⟨rfl, rfl, rfl, rfl, rfl⟩
  | response =>
    have hmore : ¬ s.tickCountdown - 1 = 0 := fun h0 => h ⟨hs, countdown_sub_one_eq_zero.mp h0⟩
    rw [onTick_response hs, if_neg hmore]
    exact ⟨rfl, rfl, rfl, rfl, rfl⟩
  | stop => rw [onTick_stop hs]; split <;> exact ⟨rfl, rfl, rfl, rfl, rfl⟩
  | idle => rw [onTick_idle hs]; exact ⟨rfl, rfl, rfl, rfl, rfl⟩
  | unrecognized code => rw [onTick_unrecognized hs]; exact ⟨rfl, rfl, rfl, rfl, rfl⟩

/-- The last tick of Response is a dispatch, from a state with the Device State as it was (41 R138). -/
theorem onTick_last_dispatches {s : State} (w : Option Level) (hs : s.state = .response) (hc : s.tickCountdown = 1) :
    ∃ raw u, SameDevice s u ∧ onTick w s = dispatch s.requestOpcode raw u := by
  rw [onTick_response hs, if_pos (countdown_sub_one_eq_zero.mpr hc)]
  refine ⟨_, _, ?same, rfl⟩
  case same => exact ⟨rfl, rfl, rfl, rfl, rfl⟩

/-- No tick clears the protocol fault (10 R30). -/
theorem onTick_protocolFault_sticky {s : State} (w : Option Level) (h : s.protocolFault = true) :
    (onTick w s).protocolFault = true := by
  cases hs : s.state with
  | start => rw [onTick_start hs]; split <;> exact h
  | request => rw [onTick_request hs]; split <;> exact h
  | turnaround =>
    rw [onTick_turnaround hs]
    split
    · exact h
    · split <;> exact h
  | response =>
    rw [onTick_response hs]
    split
    · exact (dispatch_protocolFault _ _ _).trans h
    · exact h
  | stop => rw [onTick_stop hs]; split <;> exact h
  | idle => rw [onTick_idle hs]
  | unrecognized code => rw [onTick_unrecognized hs]

/-! ### The Device State -/

/-- A dispatch never stores the code `0xFF` (10 R32). -/
theorem completedCode_ne {old : Byte} (h : old ≠ 0xFF) (opcode : Byte) (raw : Word) :
    completedCode opcode raw old ≠ 0xFF := by
  unfold completedCode
  cases frameValid raw with
  | false => exact h
  | true =>
    rcases decodeResponse_cases opcode raw with ⟨-, hd⟩ | ⟨-, hc, hd⟩ | ⟨-, -, hd⟩ | ⟨-, -, hd⟩ <;> rw [hd]
    · exact h
    · exact hc
    · exact h
    · exact h

/-- A dispatch stores a version the formula can give (30 R99). -/
theorem completedVersion_le {old : BitVec 16} (h : old.toNat ≤ 25755) (opcode : Byte) (raw : Word) :
    (completedVersion opcode raw old).toNat ≤ 25755 := by
  unfold completedVersion
  cases frameValid raw with
  | false => exact h
  | true =>
    rcases decodeResponse_cases opcode raw with ⟨-, hd⟩ | ⟨-, -, hd⟩ | ⟨-, -, hd⟩ | ⟨-, -, hd⟩ <;> rw [hd]
    · exact h
    · exact firmwareOf_toNat_le raw
    · exact h
    · exact h

theorem completedReady_true (opcode : Byte) (raw : Word) : completedReady opcode raw true = true := by
  unfold completedReady
  cases frameValid raw with
  | false => rfl
  | true => cases decodeResponse opcode raw <;> rfl

theorem deviceInv_of_sameDevice {s t : State} (hst : SameDevice s t) (h : DeviceInv s) : DeviceInv t := by
  unfold DeviceInv
  rw [hst.identificationCode, hst.firmwareVersion]
  exact h

theorem dispatch_keeps_deviceInv {s : State} (h : DeviceInv s) (opcode : Byte) (raw : Word) :
    DeviceInv (dispatch opcode raw s) := by
  obtain ⟨hcode, hversion⟩ := h
  rw [dispatch_eq]
  exact ⟨completedCode_ne hcode opcode raw, completedVersion_le hversion opcode raw⟩

theorem onTick_keeps_deviceInv {s : State} (h : DeviceInv s) (w : Option Level) : DeviceInv (onTick w s) := by
  by_cases hlast : s.state = .response ∧ s.tickCountdown = 1
  · obtain ⟨hs, hc⟩ := hlast
    obtain ⟨raw, u, hu, he⟩ := onTick_last_dispatches w hs hc
    rw [he]
    exact dispatch_keeps_deviceInv (deviceInv_of_sameDevice hu h) _ _
  · exact deviceInv_of_sameDevice (onTick_sameDevice w hlast) h

/-- Reset unsets the identification (10 R52). -/
theorem resetCore_deviceInv (s : State) : DeviceInv (resetCore s) := by
  have hunset : identUnset ≠ 0xFF := by decide
  have hzero : (0 : BitVec 16).toNat ≤ 25755 := by decide
  exact ⟨hunset, hzero⟩

/-- Settles O48: a tick keeps the invariant, reset establishes it, and no other call writes the Device State. -/
theorem everyStepKeepsTheDeviceInvariant : Obligations.EveryStepKeepsTheDeviceInvariant := by
  intro s t h hstep
  rcases step_cases hstep with ⟨-, rfl⟩ | ⟨call, rest, -, hd⟩
  · exact h
  · have h' : DeviceInv { s with inbox := rest } := h
    rcases deliver_cases hd with ⟨_, _, _, -, -, -, rfl⟩ | ⟨_, _, _, -, -, -, rfl⟩ | ⟨opcode, -, rfl⟩ | ⟨w, -, rfl⟩ |
      ⟨-, rfl⟩ | ⟨-, rfl⟩ | ⟨-, rfl⟩
    · exact h'
    · exact h'
    · exact deviceInv_of_sameDevice (startSession_frame opcode _).device h'
    · exact onTick_keeps_deviceInv h' w
    · exact h'
    · exact resetCore_deviceInv _
    · exact h'

/-! ### Sticky flags -/

/-- No tick clears `backlight_ready` (10 R29). -/
theorem onTick_backlightReady_sticky {s : State} (w : Option Level) (h : s.backlightReady = true) :
    (onTick w s).backlightReady = true := by
  by_cases hlast : s.state = .response ∧ s.tickCountdown = 1
  · obtain ⟨hs, hc⟩ := hlast
    obtain ⟨raw, u, hu, he⟩ := onTick_last_dispatches w hs hc
    rw [he, dispatch_eq]
    show completedReady s.requestOpcode raw u.backlightReady = true
    rw [hu.backlightReady, h, completedReady_true]
  · exact (onTick_sameDevice w hlast).backlightReady.trans h

/-- Settles O52: a start request and a tick keep the flags, and of the other calls only reset writes them. -/
theorem onlyResetClearsTheStickyFlags : Obligations.OnlyResetClearsTheStickyFlags := by
  intro s t hstep hnoreset
  rcases step_cases hstep with ⟨-, rfl⟩ | ⟨call, rest, hi, hd⟩
  · exact ⟨id, id⟩
  · rcases deliver_cases hd with ⟨_, _, _, -, -, -, rfl⟩ | ⟨_, _, _, -, -, -, rfl⟩ | ⟨opcode, -, rfl⟩ | ⟨w, -, rfl⟩ |
      ⟨-, rfl⟩ | ⟨rfl, -⟩ | ⟨-, rfl⟩
    · exact ⟨id, id⟩
    · exact ⟨id, id⟩
    · have frame := startSession_frame opcode { s with inbox := rest }
      exact ⟨fun h => frame.device.backlightReady.trans h, fun h => frame.protocolFault.trans h⟩
    · exact ⟨onTick_backlightReady_sticky (s := { s with inbox := rest }) w,
        onTick_protocolFault_sticky (s := { s with inbox := rest }) w⟩
    · exact ⟨id, id⟩
    · exact absurd (nextCall_cons hi) hnoreset
    · exact ⟨id, id⟩

/-! ### Leaving Idle -/

/-- Settles O51: a tick in Idle stays there, and a start request that is not accepted writes no state. -/
theorem onlyAnAcceptedStartLeavesIdle : Obligations.OnlyAnAcceptedStartLeavesIdle := by
  intro s t hs hstep ht
  rcases step_cases hstep with ⟨-, rfl⟩ | ⟨call, rest, hi, hd⟩
  · exact absurd hs ht
  · have hs' : ({ s with inbox := rest } : State).state = .idle := hs
    rcases deliver_cases hd with ⟨_, _, _, -, -, -, rfl⟩ | ⟨_, _, _, -, -, -, rfl⟩ | ⟨opcode, rfl, rfl⟩ | ⟨w, -, rfl⟩ |
      ⟨-, rfl⟩ | ⟨-, rfl⟩ | ⟨-, rfl⟩
    · exact absurd hs ht
    · exact absurd hs ht
    · rcases startSession_cases opcode { s with inbox := rest } with ⟨-, he⟩ | ⟨-, hbusy, -⟩ | ⟨hc, -, he⟩
      · rw [he] at ht
        exact absurd hs ht
      · exact absurd hs hbusy
      · exact ⟨hc, by rw [he, acceptSession_eq], opcode, nextCall_cons hi⟩
    · exact absurd (by rw [onTick_idle hs']) ht
    · exact absurd hs ht
    · exact absurd rfl ht
    · exact absurd hs ht

/-! ### The access table -/

/-- Settles O53: the oldest call is known in each case, and every register its frame names is unchanged. -/
theorem stateIsWrittenOnlyByItsOwners : Obligations.StateIsWrittenOnlyByItsOwners := by
  intro s t hstep
  rcases step_cases hstep with ⟨-, rfl⟩ | ⟨call, rest, hi, hd⟩
  · simp
  · have hn := nextCall_cons hi
    rcases deliver_cases hd with ⟨_, _, _, rfl, -, -, rfl⟩ | ⟨_, _, _, rfl, -, -, rfl⟩ | ⟨opcode, rfl, rfl⟩ |
      ⟨w, rfl, rfl⟩ | ⟨rfl, rfl⟩ | ⟨rfl, rfl⟩ | ⟨rfl, rfl⟩
    · simp [hn, raise_configurationError]
    · simp [hn]
    · obtain ⟨⟨hcode, hversion, hready, hreceived, herror⟩, hreload, hconfigured, hfault⟩ :=
        startSession_frame opcode { s with inbox := rest }
      simp [hn, hcode, hversion, hready, hreceived, herror, hreload, hconfigured, hfault]
    · have frame := onTick_frame w { s with inbox := rest }
      refine ⟨fun _ => .inr (.inr ⟨w, hn⟩), fun hdevice => ?device, ?timing, ?busy, ?opcode, fun _ => .inr ⟨w, hn⟩⟩
      case device =>
        have hlast : s.state = .response ∧ s.tickCountdown = 1 := by
          by_contra hno
          obtain ⟨hcode, hversion, hready, hreceived, herror⟩ :=
            onTick_sameDevice (s := { s with inbox := rest }) w hno
          simp [hcode, hversion, hready, hreceived, herror] at hdevice
        exact .inr ⟨hlast.1, hlast.2, w, hn⟩
      case timing => simp [frame.reloadValue, frame.configured]
      case busy => simp [frame.totalBusy]
      case opcode => simp [frame.requestOpcode]
    · simp [shutdown]
    · simp [hn]
    · simp [handOver]

/-! ### The reload value -/

/-- The invariant is about two registers. -/
theorem timingInv_of_registers {s t : State} (hreload : t.reloadValue = s.reloadValue)
    (hconfigured : t.configured = s.configured) (h : TimingInv s) : TimingInv t := by
  unfold TimingInv
  rw [hreload, hconfigured]
  exact h

/-- By the call the step performs: only `init`, which is for the target bit rate, and reset write the two registers. -/
theorem step_keeps_timingInv {s t : State} (h : TimingInv s) (hrate : BitRateKept s) (hstep : step s = .next t) :
    TimingInv t := by
  rcases step_cases hstep with ⟨-, rfl⟩ | ⟨call, rest, hi, hd⟩
  · exact h
  · have h' : TimingInv { s with inbox := rest } := h
    rw [BitRateKept, nextCall_cons hi] at hrate
    rcases deliver_cases hd with ⟨_, _, _, -, -, -, rfl⟩ | ⟨ref, pre, rate, rfl, -, hf, rfl⟩ | ⟨opcode, -, rfl⟩ |
      ⟨w, -, rfl⟩ | ⟨-, rfl⟩ | ⟨-, rfl⟩ | ⟨-, rfl⟩
    · exact fun hc => absurd hc Bool.false_ne_true
    · obtain ⟨-, -, rfl⟩ := Input.init.inj hrate
      exact fun _ => ⟨ref, pre, hf, rfl⟩
    · have frame := startSession_frame opcode { s with inbox := rest }
      exact timingInv_of_registers frame.reloadValue frame.configured h'
    · have frame := onTick_frame w { s with inbox := rest }
      exact timingInv_of_registers frame.reloadValue frame.configured h'
    · exact h'
    · exact fun hc => absurd hc Bool.false_ne_true
    · exact h'

/-- Settles O59: the step lemma, and the value an accepted start arms with, which is `reload_value`. -/
theorem everyStepKeepsTheReloadOfTheBitRate : Obligations.EveryStepKeepsTheReloadOfTheBitRate := by
  refine ⟨fun s t => step_keeps_timingInv, fun i s h hc hs => ?armed⟩
  case armed =>
    obtain ⟨ref, pre, hf, hreload⟩ := h hc
    refine ⟨_, ref, pre, requestsAreAcceptedWhenIdle i s hc hs, hf, ?_⟩
    show s.trace ++ [.lineDrive .high, .lineDrive .low, .tickArm s.reloadValue, .result .accepted] = _
    rw [hreload]
    rfl

end Sys2Proof.Proofs
end

section
/-!
The course of a session (41 R143): how many ticks it has left, and what holds on the way whatever the samples.
-/

namespace Sys2Proof.Proofs

open Sys2Proof.Machine
open Sys2Proof.Safety

/-! ### The ticks that are left -/

/-- The ticks until the session is over: those of the present phase and of the phases after it (41 R143). -/
def ticksLeft (s : State) : Nat :=
  match s.state with
  | .start => s.tickCountdown.toNat + 52
  | .request => s.tickCountdown.toNat + 36
  | .turnaround => s.tickCountdown.toNat + 34
  | .response => s.tickCountdown.toNat + 2
  | .stop => s.tickCountdown.toNat
  | .idle => 0
  | .unrecognized _ => 0

section Phases
variable {s : State}

theorem ticksLeft_idle (hs : s.state = .idle) : ticksLeft s = 0 := by
  simp only [ticksLeft, hs]

theorem ticksLeft_start (hs : s.state = .start) : ticksLeft s = s.tickCountdown.toNat + 52 := by
  simp only [ticksLeft, hs]

theorem ticksLeft_request (hs : s.state = .request) : ticksLeft s = s.tickCountdown.toNat + 36 := by
  simp only [ticksLeft, hs]

theorem ticksLeft_turnaround (hs : s.state = .turnaround) : ticksLeft s = s.tickCountdown.toNat + 34 := by
  simp only [ticksLeft, hs]

theorem ticksLeft_response (hs : s.state = .response) : ticksLeft s = s.tickCountdown.toNat + 2 := by
  simp only [ticksLeft, hs]

theorem ticksLeft_stop (hs : s.state = .stop) : ticksLeft s = s.tickCountdown.toNat := by
  simp only [ticksLeft, hs]

/-- While ticks are left the state is not Idle. -/
theorem state_ne_idle_of_ticksLeft (h : ticksLeft s ≠ 0) : s.state ≠ .idle :=
  fun hs => h (ticksLeft_idle hs)

end Phases

section Ticks
variable {s : State} (w : Option Level) (h : SessionInv s)
include h

theorem onTick_ticksLeft_request (hs : s.state = .request) : ticksLeft (onTick w s) + 1 = ticksLeft s := by
  obtain ⟨n, hn, hlow, -⟩ := (sessionInv_request hs).mp h
  rw [ticksLeft_request hs, hn, onTick_request hs]
  split
  · next hlast =>
    rw [ticksLeft_turnaround rfl, (countdown_done_iff hn).mp hlast]
    rfl
  · rw [ticksLeft_request (by exact hs)]
    show (s.tickCountdown - 1).toNat + 36 + 1 = n + 36
    rw [countdown_sub_one_toNat hn hlow]
    omega

theorem onTick_ticksLeft_turnaround (hs : s.state = .turnaround) : ticksLeft (onTick w s) + 1 = ticksLeft s := by
  obtain ⟨n, hn, hlow, hhigh, -⟩ := (sessionInv_turnaround hs).mp h
  rw [ticksLeft_turnaround hs, hn, onTick_turnaround hs]
  split
  · rw [ticksLeft_turnaround (by exact hs)]
    show (s.tickCountdown - 1).toNat + 34 + 1 = n + 34
    rw [countdown_sub_one_toNat hn hlow]
    omega
  · next hone =>
    have hlast : s.tickCountdown - 1 = 0 := by bv_omega
    rw [if_pos hlast, ticksLeft_response rfl, (countdown_done_iff hn).mp hlast]
    rfl

theorem onTick_ticksLeft_response (hs : s.state = .response) : ticksLeft (onTick w s) + 1 = ticksLeft s := by
  obtain ⟨n, hn, hlow, -⟩ := (sessionInv_response hs).mp h
  rw [ticksLeft_response hs, hn, onTick_response hs]
  split
  · next hlast =>
    rw [ticksLeft_stop (dispatch_state _ _ _), dispatch_tickCountdown, (countdown_done_iff hn).mp hlast]
    rfl
  · rw [ticksLeft_response (by exact hs)]
    show (s.tickCountdown - 1).toNat + 2 + 1 = n + 2
    rw [countdown_sub_one_toNat hn hlow]
    omega

theorem onTick_ticksLeft_stop (hs : s.state = .stop) : ticksLeft (onTick w s) + 1 = ticksLeft s := by
  obtain ⟨n, hn, hlow, -⟩ := (sessionInv_stop hs).mp h
  rw [ticksLeft_stop hs, hn, onTick_stop hs]
  split
  · next hlast => rw [ticksLeft_idle rfl, (countdown_done_iff hn).mp hlast]
  · rw [ticksLeft_stop (by exact hs)]
    show (s.tickCountdown - 1).toNat + 1 = n
    rw [countdown_sub_one_toNat hn hlow]
    omega

/-- Every tick of a session uses up one. -/
theorem onTick_ticksLeft (hbusy : s.state ≠ .idle) : ticksLeft (onTick w s) + 1 = ticksLeft s := by
  cases hs : s.state with
  | idle => exact absurd hs hbusy
  | start =>
    obtain ⟨hc, -⟩ := (sessionInv_start hs).mp h
    rw [ticksLeft_start hs, hc, onTick_start hs, if_pos (countdown_sub_one_eq_zero.mpr hc), ticksLeft_request rfl]
    rfl
  | request => exact onTick_ticksLeft_request w h hs
  | turnaround => exact onTick_ticksLeft_turnaround w h hs
  | response => exact onTick_ticksLeft_response w h hs
  | stop => exact onTick_ticksLeft_stop w h hs
  | unrecognized code => exact absurd h (not_sessionInv_unrecognized hs)

/-- A session with no tick left is over. -/
theorem state_idle_of_ticksLeft (hleft : ticksLeft s = 0) : s.state = .idle := by
  by_contra hbusy
  have := onTick_ticksLeft none h hbusy
  omega

/-- The only state with one tick left is (Stop, 1). -/
theorem stop_one_of_ticksLeft (hleft : ticksLeft s = 1) : s.state = .stop ∧ s.tickCountdown = 1 := by
  cases hs : s.state with
  | idle => rw [ticksLeft_idle hs] at hleft; omega
  | start => rw [ticksLeft_start hs] at hleft; omega
  | request => rw [ticksLeft_request hs] at hleft; omega
  | turnaround => rw [ticksLeft_turnaround hs] at hleft; omega
  | response =>
    obtain ⟨n, hn, hlow, -⟩ := (sessionInv_response hs).mp h
    rw [ticksLeft_response hs] at hleft
    omega
  | stop =>
    rw [ticksLeft_stop hs] at hleft
    exact ⟨rfl, BitVec.eq_of_toNat_eq hleft⟩
  | unrecognized code => exact absurd h (not_sessionInv_unrecognized hs)

end Ticks

/-! ### The arming -/

/-- A tick source that is armed exactly while the CORE is busy stays so: the tick that returns to Idle disarms
(41 R139 to R141). -/
theorem onTick_tickArmed {s : State} (w : Option Level) (h : s.tickArmed = busy s) :
    (onTick w s).tickArmed = busy (onTick w s) := by
  have armed : ∀ {st : SessionState}, s.state = st → st ≠ .idle → s.tickArmed = true :=
    fun hs hne => h.trans (busy_eq_true.mpr (hs ▸ hne))
  cases hs : s.state with
  | idle => rw [onTick_idle hs]; rfl
  | start =>
    have ha := armed hs nofun
    rw [onTick_start hs]
    split <;> simp [busy, ha, hs]
  | request =>
    have ha := armed hs nofun
    rw [onTick_request hs]
    split <;> simp [busy, ha, hs]
  | turnaround =>
    have ha := armed hs nofun
    rw [onTick_turnaround hs]
    split
    · simp [busy, ha, hs]
    · split <;> simp [busy, ha, hs]
  | response =>
    have ha := armed hs nofun
    rw [onTick_response hs]
    split <;> simp [busy, ha, hs]
  | stop =>
    have ha := armed hs nofun
    rw [onTick_stop hs]
    split <;> simp [busy, ha, hs]
  | unrecognized code => rw [onTick_unrecognized hs]; rfl

/-! ### Any ticks of a session -/

/-- What holds on the way through a session (41 R155, 44 R223). -/
structure OnTheWay (s : State) : Prop where
  session : SessionInv s
  tickArmed : s.tickArmed = busy s
  configured : s.configured = true

theorem onTick_onTheWay {s : State} (w : Option Level) (h : OnTheWay s) : OnTheWay (onTick w s) where
  session := onTick_keeps_sessionInv w h.session
  tickArmed := onTick_tickArmed w h.tickArmed
  configured := (onTick_frame w s).configured.trans h.configured

theorem acceptSession_onTheWay {s : State} (hc : s.configured = true) (opcode : Byte) :
    OnTheWay (acceptSession opcode s) where
  session := acceptSession_sessionInv opcode s
  tickArmed := by rw [acceptSession_eq]; rfl
  configured := by rw [acceptSession_eq]; exact hc

/-- An accepted start has all the ticks of a session before it (41 R143). -/
theorem acceptSession_ticksLeft (opcode : Byte) (s : State) : ticksLeft (acceptSession opcode s) = 53 := by
  rw [acceptSession_eq]
  rfl

/-- By induction on the ticks: each uses up one, as long as one is left. -/
theorem ticks_onTheWay (wires : List (Option Level)) : ∀ s : State, OnTheWay s → wires.length ≤ ticksLeft s →
    OnTheWay (ticks wires s) ∧ ticksLeft (ticks wires s) + wires.length = ticksLeft s := by
  induction wires with
  | nil => exact fun s h _ => ⟨h, rfl⟩
  | cons w wires ih =>
    intro s h hlen
    rw [List.length_cons] at hlen ⊢
    have hbusy : s.state ≠ .idle := state_ne_idle_of_ticksLeft (by omega)
    have hone := onTick_ticksLeft w h.session hbusy
    obtain ⟨hway, hleft⟩ := ih (onTick w s) (onTick_onTheWay w h) (by omega)
    exact ⟨hway, by rw [ticks_cons]; omega⟩

/-- A start request and the ticks after it, as a run: an accepted start, then the ticks. -/
theorem run_started_ticks {s : State} {opcode : Byte} {wires : List (Option Level)} {rest : List Input}
    (hc : s.configured = true) (hs : s.state = .idle) (hi : s.inbox = .start opcode :: (wires.map .tick ++ rest))
    {k : Nat} (hk : k ≤ wires.length) :
    core.run (1 + k) s =
      .next { ticks (wires.take k) (acceptSession opcode s) with inbox := (wires.drop k).map .tick ++ rest } := by
  have hinbox : wires.map .tick ++ rest = (wires.take k).map .tick ++ ((wires.drop k).map Input.tick ++ rest) := by
    rw [← List.append_assoc, ← List.map_append, List.take_append_drop]
  have hlen : (wires.take k).length = k := List.length_take_of_le hk
  have hrun := run_ticks (wires.take k) (acceptSession opcode { s with inbox := wires.map .tick ++ rest })
    ((wires.drop k).map .tick ++ rest) (by rw [acceptSession_eq]; exact hinbox)
  rw [hlen, acceptSession_eq, ← ticks_setInbox] at hrun
  rw [Nat.add_comm, run_start hi, startSession_idle (by exact hc) (by exact hs), acceptSession_eq, hrun,
    ← ticks_setInbox, acceptSession_eq]

/-- The run of a started session up to `k` of its 53 ticks, whatever the levels. -/
theorem run_started_session {s : State} {opcode : Byte} {wires : List (Option Level)} {rest : List Input}
    (hc : s.configured = true) (hs : s.state = .idle) (hlen : wires.length = 53)
    (hi : s.inbox = .start opcode :: (wires.map .tick ++ rest)) {k : Nat} (hk : k ≤ 53) :
    ∃ t, core.run (1 + k) s = .next t ∧ OnTheWay t ∧ ticksLeft t + k = 53 ∧
      t.inbox = (wires.drop k).map .tick ++ rest := by
  have hlenk : (wires.take k).length = k := List.length_take_of_le (by omega)
  have hfull := acceptSession_ticksLeft opcode s
  obtain ⟨hway, hleft⟩ := ticks_onTheWay (wires.take k) _ (acceptSession_onTheWay hc opcode) (by omega)
  refine ⟨_, run_started_ticks hc hs hi (by omega), ⟨hway.session, hway.tickArmed, hway.configured⟩, ?_, rfl⟩
  show ticksLeft (ticks (wires.take k) (acceptSession opcode s)) + k = 53
  omega

/-- Settles O39: after `k` ticks `53 - k` are left, and the tick source is armed exactly while there are any. -/
theorem sessionTakesExactlyFiftyThreeTicks : Obligations.SessionTakesExactlyFiftyThreeTicks := by
  intro s opcode wires rest hc hs hlen hi
  refine ⟨fun k hk => ?running, ?last, ?finished⟩
  case running =>
    obtain ⟨t, hrun, hway, hleft, -⟩ := run_started_session hc hs hlen hi (k := k) (by omega)
    have hne : t.state ≠ .idle := state_ne_idle_of_ticksLeft (by omega)
    exact ⟨t, hrun, hne, hway.tickArmed.trans (busy_eq_true.mpr hne)⟩
  case last =>
    obtain ⟨t, hrun, hway, hleft, -⟩ := run_started_session hc hs hlen hi (k := 52) (by omega)
    obtain ⟨hstop, hone⟩ := stop_one_of_ticksLeft hway.session (by omega)
    exact ⟨t, hrun, hstop, hone, hway.tickArmed.trans (busy_eq_true.mpr (by rw [hstop]; exact nofun))⟩
  case finished =>
    obtain ⟨t, hrun, hway, hleft, hinbox⟩ := run_started_session hc hs hlen hi (k := 53) (by omega)
    have hidle := state_idle_of_ticksLeft hway.session (by omega)
    refine ⟨t, hrun, hidle, hway.tickArmed.trans (busy_eq_false.mpr hidle), ?_⟩
    rw [hinbox, List.drop_eq_nil_of_le (by omega)]
    rfl

/-- Settles O45: while ticks are left a request is rejected, which writes a counter and the trace only; with none left
it is accepted. -/
theorem rejectionLeavesTheRunningSessionIntact : Obligations.RejectionLeavesTheRunningSessionIntact := by
  intro i s opcode wires rest hc hs hlen hi
  refine ⟨fun k hk => ?running, ?finished⟩
  case running =>
    obtain ⟨t, hrun, hway, hleft, -⟩ := run_started_session hc hs hlen hi (k := k) (by omega)
    have hne : t.state ≠ .idle := state_ne_idle_of_ticksLeft (by omega)
    refine ⟨t, _, hrun, requestsWhileBusyAreRejected i t hway.configured hne, ?_⟩
    exact ⟨rfl, rfl, rfl, rfl, rfl, rfl, rfl, rfl, by simp⟩
  case finished =>
    obtain ⟨t, hrun, hway, hleft, -⟩ := run_started_session hc hs hlen hi (k := 53) (by omega)
    have hidle := state_idle_of_ticksLeft hway.session (by omega)
    exact ⟨t, _, hrun, requestsAreAcceptedWhenIdle i t hway.configured hidle, rfl, by simp⟩

end Sys2Proof.Proofs
end

section
/-!
A whole session (41 R158, 43 R200), phase by phase: start and request, turnaround, response with its dispatch, stop.
-/

namespace Sys2Proof.Proofs

open Sys2Proof.Machine
open Sys2Proof.Safety

/-! ### The levels of a session's ticks -/

/-- The levels of the 17 ticks of Start and Request, the two of Turnaround, the 32 of Response, the two of Stop. -/
def sessionWires (quiet : Nat → Option Level) (r : Word) : List (Option Level) :=
  (quiet 0 :: (List.range 16).map (fun k => quiet (k + 1))) ++ [quiet 17, quiet 18]
    ++ (List.range 32).map (fun j => some (levelOfBit (r.getLsbD (31 - j)))) ++ [quiet 19, quiet 20]

theorem sessionWires_length (quiet : Nat → Option Level) (r : Word) : (sessionWires quiet r).length = 53 := by
  simp [sessionWires]

/-- A session's ticks carry these levels (41 R144). -/
theorem sessionTicks_eq (quiet : Nat → Option Level) (r : Word) :
    sessionTicks quiet r = (sessionWires quiet r).map .tick := by
  have hresponse : (List.range 32).map (fun j => Input.tick (some (levelOfBit (r.getLsbD (31 - j))))) =
      ((List.range 32).map fun j => some (levelOfBit (r.getLsbD (31 - j)))).map Input.tick := by
    rw [List.map_map]
    rfl
  rw [sessionTicks, responseTicks, hresponse, sessionWires, List.map_append, List.map_append]
  rfl

/-! ### The phases -/

/-- The effects from the start request to the last request bit (41 R158). -/
def requestEffects (opcode : Byte) (reload : Word) : List Effect :=
  [.lineDrive .high, .lineDrive .low, .tickArm reload, .result .accepted]
    ++ (List.range 16).map fun j => .lineDrive (levelOfBit ((requestFrame opcode).getLsbD (15 - j)))

/-- The bit sent by the `j`th Request tick is bit `15 - j` of the frame (30 R85). -/
theorem loadedShift_getLsbD (opcode : Byte) {j : Nat} (hj : j < 16) :
    (loadedShift opcode).getLsbD (31 - j) = (requestFrame opcode).getLsbD (15 - j) := by
  have hhigh : ¬ 31 - j < 16 := by omega
  have hbit : 31 - j - 16 = 15 - j := by omega
  rw [loadedShift, BitVec.getLsbD_append, if_neg hhigh, hbit]

/-- The Start tick and the Request ticks after an accepted start: the frame is out, and Turnaround begins. -/
theorem ticks_start_request {wires : List (Option Level)} (w : Option Level) (hlen : wires.length = 16)
    (opcode : Byte) (s : State) :
    ticks (w :: wires) (acceptSession opcode s) =
      { s with
        state := .turnaround
        tickCountdown := 2
        shiftRegister := 0
        requestOpcode := opcode
        lineLatch := levelOfBit ((requestFrame opcode).getLsbD 0)
        tickArmed := true
        trace := s.trace ++ requestEffects opcode s.reloadValue } := by
  have hbits : ((List.range 16).map fun j => Effect.lineDrive (levelOfBit ((loadedShift opcode).getLsbD (31 - j)))) =
      (List.range 16).map fun j => .lineDrive (levelOfBit ((requestFrame opcode).getLsbD (15 - j))) := by
    refine List.map_congr_left fun j hj => ?_
    rw [loadedShift_getLsbD opcode (List.mem_range.mp hj)]
  rw [ticks_cons, acceptSession_eq, onTick_start rfl, if_pos (countdown_sub_one_eq_zero.mpr rfl),
    ticks_request 15 wires _ hlen rfl rfl (by decide)]
  simp only [Nat.reduceAdd, hbits, loadedShift_shiftLeft_sixteen, loadedShift_getLsbD opcode (j := 15) (by decide),
    List.append_assoc]
  rfl

/-- The two Turnaround ticks release the line and begin Response (41 R137). -/
theorem ticks_turnaround {s : State} (hs : s.state = .turnaround) (hc : s.tickCountdown = 2) (v w : Option Level) :
    ticks [v, w] s =
      { s with
        state := .response
        tickCountdown := 32
        lineLatch := .high
        lineMode := .input
        trace := s.trace ++ [.lineDrive .high, .lineBecomeInput] } := by
  have hone : s.tickCountdown - 1 = 1 := countdown_sub_one_eq_one.mpr hc
  have hmore : ¬ (1 : Word) - 1 = 1 := by decide
  have hdone : (1 : Word) - 1 = 0 := by decide
  rw [ticks_cons, ticks_cons, ticks_nil, onTick_turnaround hs, if_pos hone, onTick_turnaround (by exact hs), hone,
    if_neg hmore, if_pos hdone]

/-- The ticks from an accepted start to the beginning of Response. -/
theorem ticks_until_response {wires : List (Option Level)} (hlen : wires.length = 16) (u v w : Option Level)
    (opcode : Byte) (s : State) :
    ticks ((u :: wires) ++ [v, w]) (acceptSession opcode s) =
      { s with
        state := .response
        tickCountdown := 32
        shiftRegister := 0
        requestOpcode := opcode
        lineLatch := .high
        lineMode := .input
        tickArmed := true
        trace := s.trace ++ requestEffects opcode s.reloadValue ++ [.lineDrive .high, .lineBecomeInput] } := by
  rw [ticks_append, ticks_start_request u hlen]
  exact ticks_turnaround rfl rfl v w

/-- The two Stop ticks end the session (41 R139). -/
theorem ticks_stop {s : State} (hs : s.state = .stop) (hc : s.tickCountdown = 2) (v w : Option Level) :
    ticks [v, w] s =
      { s with tickCountdown := 0, state := .idle, tickArmed := false, trace := s.trace ++ [.tickDisarm] } := by
  have hone : s.tickCountdown - 1 = 1 := countdown_sub_one_eq_one.mpr hc
  have hmore : ¬ (1 : Word) = 0 := by decide
  have hdone : (1 : Word) - 1 = 0 := by decide
  rw [ticks_cons, ticks_cons, ticks_nil, onTick_stop hs, hone, if_neg hmore, onTick_stop (by exact hs), if_pos hdone]

/-- The ticks from the beginning of Response to the end of the session, with the levels of a response. -/
theorem ticks_from_response {s : State} (hs : s.state = .response) (hc : s.tickCountdown = 32)
    (hr : s.shiftRegister = 0) (r : Word) (v w : Option Level) :
    ticks (((List.range 32).map fun j => some (levelOfBit (r.getLsbD (31 - j)))) ++ [v, w]) s =
      { s with
        state := .idle
        tickCountdown := 0
        shiftRegister := r
        lineMode := .output
        lineLatch := .high
        tickArmed := false
        draws := s.draws + 32
        totalReceived := s.totalReceived + 1
        totalError := completedErrors r s.totalReceived s.totalError
        identificationCode := completedCode s.requestOpcode r s.identificationCode
        firmwareVersion := completedVersion s.requestOpcode r s.firmwareVersion
        backlightReady := completedReady s.requestOpcode r s.backlightReady
        trace := s.trace ++ ((List.range 32).map (fun j => .lineRead (levelOfBit (r.getLsbD (31 - j))))
          ++ [.lineDrive .high, .lineBecomeOutput]) ++ completionEffects s.requestOpcode r ++ [.tickDisarm] } := by
  have hcount : s.tickCountdown.toNat = 31 + 1 := congrArg BitVec.toNat hc
  have hempty : s.shiftRegister = r >>> (31 + 1) := hr.trans (BitVec.ushiftRight_eq_zero (by decide)).symm
  rw [ticks_append, ticks_response r 31 s hs hcount (by decide) hempty,
    ticks_stop (dispatch_state _ _ _) (dispatch_tickCountdown _ _ _), dispatch_eq]

/-! ### The session -/

/-- The 53 ticks after an accepted start: the common end state, with what the dispatcher makes of the response. -/
theorem ticks_session (quiet : Nat → Option Level) (r : Word) (opcode : Byte) (s : State) :
    ticks (sessionWires quiet r) (acceptSession opcode s) =
      { sessionEnd opcode r (completionEffects opcode r) s.inbox s with
        totalError := completedErrors r s.totalReceived s.totalError
        identificationCode := completedCode opcode r s.identificationCode
        firmwareVersion := completedVersion opcode r s.firmwareVersion
        backlightReady := completedReady opcode r s.backlightReady } := by
  rw [sessionWires, List.append_assoc, ticks_append, ticks_until_response (by simp), ticks_from_response rfl rfl rfl]
  simp only [sessionEnd, canonicalTrace, requestEffects, List.append_assoc]

/-- The session as a run from the state after the start request. -/
theorem run_session {s : State} {quiet : Nat → Option Level} {r : Word} {rest : List Input}
    (hi : s.inbox = sessionTicks quiet r ++ rest) (opcode : Byte) :
    core.run 53 (acceptSession opcode s) = .next
      { sessionEnd opcode r (completionEffects opcode r) rest s with
        totalError := completedErrors r s.totalReceived s.totalError
        identificationCode := completedCode opcode r s.identificationCode
        firmwareVersion := completedVersion opcode r s.firmwareVersion
        backlightReady := completedReady opcode r s.backlightReady } := by
  have hinbox : (acceptSession opcode s).inbox = (sessionWires quiet r).map .tick ++ rest := by
    rw [acceptSession_eq, ← sessionTicks_eq]
    exact hi
  have hrun := run_ticks (sessionWires quiet r) _ rest hinbox
  rw [sessionWires_length, ticks_session] at hrun
  exact hrun

/-- Settles O40: the run is `run_session`, and what the dispatcher puts out is determined by its trace. -/
theorem sessionRunsItsCanonicalTrace : Obligations.SessionRunsItsCanonicalTrace := by
  intro i s quiet r rest out hc hs hi hout
  rw [dispatch_trace] at hout
  obtain rfl := List.append_cancel_left hout
  refine ⟨_, (exec_eq i s).trans (by rw [startSession_idle hc hs]), ?run⟩
  case run =>
    rw [run_session hi, dispatch_eq]

/-- A session whose dispatch is known as a flat update of the counters, the Device State and the trace. -/
theorem session_of_dispatch {i : Instr} {s : State} {quiet : Nat → Option Level} {r : Word} {rest : List Input}
    (hc : s.configured = true) (hs : s.state = .idle) (hi : s.inbox = sessionTicks quiet r ++ rest)
    {out : List Effect} {errors : Word} {code : Byte} {version : BitVec 16} {ready : Bool}
    (hd : dispatch (encodeOpcode i) r s =
      { s with
        totalReceived := s.totalReceived + 1, totalError := errors, identificationCode := code
        firmwareVersion := version, backlightReady := ready, trace := s.trace ++ out }) :
    ∃ t, exec i s = .next t ∧
      core.run 53 t = .next
        { sessionEnd (encodeOpcode i) r out rest s with
          totalError := errors, identificationCode := code, firmwareVersion := version, backlightReady := ready } := by
  obtain ⟨t, hexec, hrun⟩ := sessionRunsItsCanonicalTrace i s quiet r rest out hc hs hi (by rw [hd])
  rw [hd] at hrun
  exact ⟨t, hexec, hrun⟩

/-! ### The sessions of each instruction -/

/-- Settles O41: a dispatch of a valid touch response writes its event only. -/
theorem touchSessionReportsTheSample : Obligations.TouchSessionReportsTheSample := by
  intro s quiet r rest x y hc hs hi hv hx hy
  exact session_of_dispatch (i := .touch) hc hs hi (validTouchResponseIsReported r s x y hv hx hy)

/-- Settles O42: a dispatch of a valid identification stores it, or nothing. -/
theorem identSessionStoresTheIdentification : Obligations.IdentSessionStoresTheIdentification := by
  intro s quiet r rest code version hc hs hi hv hcode hversion
  have hd := validIdentificationIsStoredUnlessUnavailable r s code version hv hcode hversion
  by_cases hcase : code = 0xFF
  · rw [if_pos hcase] at hd
    obtain ⟨t, hexec, hrun⟩ :=
      session_of_dispatch (i := .ident) (out := []) hc hs hi (by rw [List.append_nil]; exact hd)
    exact ⟨t, hexec, hrun.trans (congrArg Host.Outcome.next (if_pos hcase).symm)⟩
  · rw [if_neg hcase] at hd
    obtain ⟨t, hexec, hrun⟩ := session_of_dispatch (i := .ident) hc hs hi hd
    exact ⟨t, hexec, hrun.trans (congrArg Host.Outcome.next (if_neg hcase).symm)⟩

/-- The opcode of a well-formed instruction is that of no other one. -/
theorem encodeOpcode_ne {i j : Instr} (hi : i.wellFormed = true) (hj : j.wellFormed = true) (hij : i ≠ j) :
    encodeOpcode i ≠ encodeOpcode j :=
  fun h => hij ((decodeOpcode_encodeOpcode hi).symm.trans (h ▸ decodeOpcode_encodeOpcode hj))

/-- Settles O43: the opcode of any of the three is neither `0x40` nor `0x60`. -/
theorem acknowledgedSessionsSetBacklightReady : Obligations.AcknowledgedSessionsSetBacklightReady := by
  intro i s quiet r rest hkind hc hs hi hv
  obtain ⟨hw, htouch, hident⟩ : i.wellFormed = true ∧ i ≠ .touch ∧ i ≠ .ident := by
    rcases hkind with ⟨level, rfl⟩ | rfl | ⟨n, rfl, hw⟩
    · exact ⟨rfl, nofun, nofun⟩
    · exact ⟨rfl, nofun, nofun⟩
    · exact ⟨hw, nofun, nofun⟩
  exact session_of_dispatch hc hs hi (validAcknowledgmentSetsBacklightReady (encodeOpcode i) r s hv
    (encodeOpcode_ne (j := .touch) hw rfl htouch) (encodeOpcode_ne (j := .ident) hw rfl hident))

/-- Settles O44: a dispatch of an invalid response counts it, logs it and reports it. -/
theorem frameErrorSessionLeavesDeviceState : Obligations.FrameErrorSessionLeavesDeviceState := by
  intro i s quiet r rest hc hs hi hv
  exact session_of_dispatch hc hs hi (failedCheckIsAFrameError (encodeOpcode i) r s hv)

end Sys2Proof.Proofs
end

section
/-!
A start and a tick at the same moment (60 R263). A tick reads neither the busy count nor the trace, so it commutes with
a rejection up to the order of the effects.
-/

namespace Sys2Proof.Proofs

open Sys2Proof.Machine

/-- A tick leaves the busy count and appends to the trace effects that depend on neither. -/
theorem onTick_setBusyTrace (w : Option Level) (s : State) :
    ∃ out : List Effect, ∀ (n : Word) (trace : List Effect),
      onTick w { s with totalBusy := n, trace := trace } =
        { onTick w s with totalBusy := n, trace := trace ++ out } := by
  obtain ⟨st, hs⟩ : ∃ st, s.state = st := ⟨_, rfl⟩
  cases st with
  | start =>
    refine ⟨[], fun n trace => ?_⟩
    rw [onTick_start hs, onTick_start (by exact hs), List.append_nil]
    split <;> rfl
  | request =>
    refine ⟨[.lineDrive (levelOfBit (s.shiftRegister.getLsbD 31))], fun n trace => ?_⟩
    rw [onTick_request hs, onTick_request (by exact hs)]
    split <;> rfl
  | turnaround =>
    refine ⟨if s.tickCountdown - 1 = 1 then [.lineDrive .high, .lineBecomeInput] else [], fun n trace => ?_⟩
    rw [onTick_turnaround hs, onTick_turnaround (by exact hs)]
    split
    · rfl
    · rw [List.append_nil]
      split <;> rfl
  | response =>
    refine ⟨.lineRead (sampledLevel w s) :: if s.tickCountdown - 1 = 0 then
      [.lineDrive .high, .lineBecomeOutput] ++ completionEffects s.requestOpcode
        (shiftIn s.shiftRegister (bitOfLevel (sampledLevel w s))) else [], fun n trace => ?_⟩
    rw [onTick_response hs, onTick_response (by exact hs)]
    split
    · rw [dispatch_eq, dispatch_eq]
      simp [sampledLevel]
    · rfl
  | stop =>
    refine ⟨if s.tickCountdown - 1 = 0 then [.tickDisarm] else [], fun n trace => ?_⟩
    rw [onTick_stop hs, onTick_stop (by exact hs)]
    split
    · rfl
    · rw [List.append_nil]
  | idle =>
    refine ⟨[.tickDisarm, .log (.protocolFault .tickWhileIdle)], fun n trace => ?_⟩
    rw [onTick_idle hs, onTick_idle (by exact hs)]
  | unrecognized code =>
    refine ⟨[.tickDisarm, .log (.protocolFault (.unrecognizedState code))], fun n trace => ?_⟩
    rw [onTick_unrecognized hs, onTick_unrecognized (by exact hs)]

/-- A start request neither reads nor writes the inbox. -/
theorem startSession_setInbox (opcode : Byte) (s : State) (rest : List Input) :
    startSession opcode { s with inbox := rest } = { startSession opcode s with inbox := rest } := by
  rcases startSession_cases opcode s with ⟨hc, he⟩ | ⟨hc, hs, he⟩ | ⟨hc, hs, he⟩ <;> rw [he]
  · rw [startSession_unconfigured (by exact hc), rejectUnconfigured_eq, rejectUnconfigured_eq]
  · rw [startSession_busy (by exact hc) (by exact hs), rejectBusy_eq, rejectBusy_eq]
  · rw [startSession_idle (by exact hc) (by exact hs), acceptSession_eq, acceptSession_eq]

/-- The run with the start first. -/
theorem run_start_tick {s : State} {opcode : Byte} {w : Option Level} {rest : List Input}
    (hi : s.inbox = .start opcode :: .tick w :: rest) :
    core.run 2 s = .next { onTick w (startSession opcode s) with inbox := rest } := by
  rw [run_start hi, startSession_setInbox, run_tick rfl, run_zero, ← onTick_setInbox]

/-- The run with the tick first. -/
theorem run_tick_start {s : State} {opcode : Byte} {w : Option Level} {rest : List Input}
    (hi : s.inbox = .tick w :: .start opcode :: rest) :
    core.run 2 s = .next { startSession opcode (onTick w s) with inbox := rest } := by
  rw [run_tick hi, onTick_setInbox, run_start rfl, run_zero, ← startSession_setInbox]

/-- Where the CORE is busy before and after the tick, the request is rejected in both orders, and only the order of the
effects differs. -/
theorem rejection_commutes {s : State} {w : Option Level} (hc : s.configured = true) (hs : s.state ≠ .idle)
    (ht : (onTick w s).state ≠ .idle) (opcode : Byte) :
    ({ onTick w (startSession opcode s) with trace := [] } : State) =
        { startSession opcode (onTick w s) with trace := [] } ∧
      (onTick w (startSession opcode s)).trace.Perm (startSession opcode (onTick w s)).trace := by
  have frame := onTick_frame w s
  obtain ⟨out, hout⟩ := onTick_setBusyTrace w s
  have htrace : (onTick w s).trace = s.trace ++ out := congrArg State.trace (hout s.totalBusy s.trace)
  rw [startSession_busy hc hs, rejectBusy_eq, hout, startSession_busy (frame.configured.trans hc) ht, rejectBusy_eq]
  refine ⟨by rw [frame.totalBusy], ?effects⟩
  case effects =>
    simp only [htrace, List.append_assoc]
    exact List.Perm.append_left _ List.perm_append_comm

/-- A tick in a phase that is not the last, and in Stop with two ticks left, does not end the session. -/
theorem onTick_state_ne_idle {s : State} (w : Option Level)
    (h : s.state = .start ∨ s.state = .request ∨ s.state = .turnaround ∨ s.state = .response ∨
      (s.state = .stop ∧ s.tickCountdown = 2)) : (onTick w s).state ≠ .idle := by
  rcases h with hs | hs | hs | hs | ⟨hs, hc⟩
  · rw [onTick_start hs]
    split <;> simp [hs]
  · rw [onTick_request hs]
    split <;> simp [hs]
  · rw [onTick_turnaround hs]
    split
    · simp [hs]
    · split <;> simp [hs]
  · rw [onTick_response hs]
    split <;> simp [hs]
  · rw [onTick_stop hs, hc, if_neg (by decide)]
    simp [hs]

/-- Settles O46: before the last tick a rejection commutes with the tick; at the last tick the start is rejected if it
comes first, and finds Idle if it comes second. -/
theorem startAndTickCommuteExceptAtTheLastTick : Obligations.StartAndTickCommuteExceptAtTheLastTick := by
  intro s s₁ s₂ opcode w rest hc hs₁ hs₂
  have hrun₁ := run_start_tick (s := s₁) (by rw [hs₁])
  have hrun₂ := run_tick_start (s := s₂) (by rw [hs₂])
  rw [hs₁, startSession_setInbox, onTick_setInbox] at hrun₁
  rw [hs₂, onTick_setInbox, startSession_setInbox] at hrun₂
  subst hs₁ hs₂
  refine ⟨fun hphase => ?commute, fun hlast => ?last⟩
  case commute =>
    have hbusy : s.state ≠ .idle := by
      rcases hphase with hs | hs | hs | hs | ⟨hs, -⟩ <;> rw [hs] <;> exact nofun
    obtain ⟨hstate, heffects⟩ := rejection_commutes hc hbusy (onTick_state_ne_idle w hphase) opcode
    refine ⟨_, _, hrun₁, hrun₂, ?_, heffects⟩
    exact congrArg (fun t : State => { t with inbox := rest }) hstate
  case last =>
    obtain ⟨hs, hone⟩ := hlast
    have hdone : s.tickCountdown - 1 = 0 := countdown_sub_one_eq_zero.mpr hone
    have hbusy : s.state ≠ .idle := by rw [hs]; exact nofun
    have hidle : (onTick w s).state = .idle := by rw [onTick_stop hs, if_pos hdone]
    have frame := onTick_frame w s
    refine ⟨_, _, hrun₁, hrun₂, ?_, ?_, ?_, ?_⟩
    · rw [startSession_busy hc hbusy, rejectBusy_eq, onTick_stop (by exact hs), if_pos hdone]
    · rw [startSession_idle (frame.configured.trans hc) hidle, acceptSession_eq]
    · show (onTick w (startSession opcode s)).totalBusy = s.totalBusy + 1
      rw [(onTick_frame w _).totalBusy, startSession_busy hc hbusy, rejectBusy_eq]
    · show (startSession opcode (onTick w s)).totalBusy = s.totalBusy
      rw [startSession_idle (frame.configured.trans hc) hidle, acceptSession_eq]
      exact frame.totalBusy

end Sys2Proof.Proofs
end

section
/-!
The blocking variant (45): the engine's frames and verdicts, its exchange on the line, and its bound of three exchanges.
-/

namespace Sys2Proof.Proofs

open Sys2Proof.Machine
open Sys2Proof.Safety

/-! ### Frames and verdicts -/

/-- The variant's check byte is the engine's: the two forms of the CRC agree (45 R236, R237). -/
theorem blockingFrame_eq (opcode : Byte) : blockingFrame opcode = requestFrame opcode := by
  rw [blockingFrame, requestFrame, checkByte, crc8, crc8Table_eq_crc8Serial]

/-- The variant's verdict is the dispatcher's, for the same reason (45 R237). -/
theorem blockingAccepts_eq (raw : Word) : blockingAccepts raw = frameValid raw := by
  rw [blockingAccepts, frameValid, crc8, crc8Table_eq_crc8Serial]

/-- Settles O55. -/
theorem blockingVariantSharesFramesAndVerdicts : Obligations.BlockingVariantSharesFramesAndVerdicts :=
  ⟨fun i => blockingFrame_eq (encodeOpcode i), blockingAccepts_eq⟩

/-! ### The exchanges of a call -/

/-- Settles O54: by which of the first two responses, if any, passes the check. -/
theorem blockingCallStopsAtTheFirstGoodResponse : Obligations.BlockingCallStopsAtTheFirstGoodResponse := by
  intro opcode wire
  unfold blockingCall blockingMaxAttempts
  cases h0 : blockingAccepts (blockingReceive (wire 0)) with
  | true =>
    rw [blockingTry_accept h0]
    exact ⟨1, by decide, by decide, rfl, fun k hk => absurd hk (by omega), .inl ⟨h0, rfl⟩⟩
  | false =>
    rw [blockingTry_retry h0]
    cases h1 : blockingAccepts (blockingReceive (wire 1)) with
    | true =>
      rw [blockingTry_accept h1]
      refine ⟨2, by decide, by decide, rfl, fun k hk => ?_, .inl ⟨h1, rfl⟩⟩
      obtain rfl : k = 0 := by omega
      exact h0
    | false =>
      have hfailed : ∀ k, k + 1 < 3 → blockingAccepts (blockingReceive (wire k)) = false := by
        intro k hk
        obtain rfl | rfl : k = 0 ∨ k = 1 := by omega
        · exact h0
        · exact h1
      rw [blockingTry_retry h1]
      cases h2 : blockingAccepts (blockingReceive (wire 2)) with
      | true =>
        rw [blockingTry_accept h2]
        exact ⟨3, by decide, by decide, rfl, hfailed, .inl ⟨h2, rfl⟩⟩
      | false =>
        rw [blockingTry_retry h2]
        exact ⟨3, by decide, by decide, rfl, hfailed, .inr ⟨rfl, rfl, rfl⟩⟩

/-- A call whose first response is valid decodes it as the engine does (45 R241). -/
theorem blockingDecoded_of_first_valid {wire : Nat → Nat → Level}
    (hv : frameValid (blockingReceive (wire 0)) = true) (opcode : Byte) :
    blockingDecoded opcode wire = some (decodeResponse opcode (blockingReceive (wire 0))) := by
  have hcall : blockingCall opcode wire = _ := blockingTry_accept ((blockingAccepts_eq _).trans hv) opcode 2
  rw [blockingDecoded, hcall]
  rfl

/-! ### The samples of an exchange -/

/-- The new sample is bit 0 of the register (30 R86). -/
theorem shiftIn_getLsbD_zero (r : Word) (b : Bool) : (shiftIn r b).getLsbD 0 = b := by
  simp [shiftIn]

/-- The samples before it move up by one (30 R86). -/
theorem shiftIn_getLsbD_succ (r : Word) (b : Bool) {k : Nat} (hk : k + 1 < 32) :
    (shiftIn r b).getLsbD (k + 1) = r.getLsbD k := by
  have hnew : ((BitVec.ofBool b).setWidth 32).getLsbD (k + 1) = false := by
    rw [BitVec.getLsbD_setWidth, BitVec.getLsbD_of_ge _ _ (by omega), Bool.and_false]
  rw [shiftIn, BitVec.getLsbD_or, BitVec.getLsbD_shiftLeft, hnew]
  simp [hk]

/-- By induction on the samples: after `n` of them, sample `j` is bit `n - 1 - j`. -/
theorem foldl_shiftIn_getLsbD (wire : Nat → Level) : ∀ n ≤ 32, ∀ j < n,
    ((List.range n).foldl (fun raw j => shiftIn raw (bitOfLevel (wire j))) 0).getLsbD (n - 1 - j) =
      bitOfLevel (wire j) := by
  intro n
  induction n with
  | zero => exact fun _ j hj => absurd hj (Nat.not_lt_zero j)
  | succ n ih =>
    intro hn j hj
    rw [List.range_succ, List.foldl_append, List.foldl_cons, List.foldl_nil]
    by_cases hlast : j = n
    · rw [hlast, show n + 1 - 1 - n = 0 by omega, shiftIn_getLsbD_zero]
    · rw [show n + 1 - 1 - j = (n - 1 - j) + 1 by omega, shiftIn_getLsbD_succ _ _ (by omega)]
      exact ih (by omega) j (by omega)

/-- Sample `j` is bit `31 - j` of the response (45 R236, 30 R83). -/
theorem blockingReceive_getLsbD (wire : Nat → Level) {j : Nat} (hj : j < 32) :
    (blockingReceive wire).getLsbD (31 - j) = bitOfLevel (wire j) :=
  foldl_shiftIn_getLsbD wire 32 (Nat.le_refl 32) j hj

/-- The samples read are those the engine reads for the response they make. -/
theorem blockingReads_eq (wire : Nat → Level) :
    blockingReads wire =
      (List.range 32).map fun j => .lineRead (levelOfBit ((blockingReceive wire).getLsbD (31 - j))) := by
  refine List.map_congr_left fun j hj => ?_
  rw [blockingReceive_getLsbD wire (List.mem_range.mp hj), levelOfBit_bitOfLevel]

/-- The engine's canonical trace is the start of the session, an exchange's line calls, and the return of the line with
what the dispatcher puts out (41 R158, 45 R236). -/
theorem canonicalTrace_eq_exchange (opcode : Byte) (reload : Word) (dispatcher : List Effect) (wire : Nat → Level) :
    canonicalTrace opcode reload (blockingReceive wire) dispatcher =
      [.lineDrive .high, .lineDrive .low, .tickArm reload, .result .accepted] ++ (blockingExchange opcode wire).calls
        ++ ([.lineDrive .high, .lineBecomeOutput] ++ dispatcher ++ [.tickDisarm]) := by
  rw [blockingExchange_calls, blockingReads_eq, blockingFrame_eq]
  simp only [canonicalTrace, blockingSend, blockingTurnaround, List.append_assoc]

/-- Settles O57. -/
theorem blockingExchangeIsTheEnginesOnTheLine : Obligations.BlockingExchangeIsTheEnginesOnTheLine := by
  intro i wire reload dispatcher x hx
  subst hx
  exact ⟨blockingFrame_eq (encodeOpcode i), fun j hj => blockingReceive_getLsbD (wire 0) hj,
    canonicalTrace_eq_exchange _ reload dispatcher (wire 0), fun hv => blockingDecoded_of_first_valid hv _⟩

end Sys2Proof.Proofs
end
